-- ==== Sys2Proof/Word.lean ====
section
/-! DEFINITION. The plain value types of the KM-416: numbers of ports, slots, regions, accounts and tags, bit-vector
widths of what the manual treats as bits, and `Tab`, a table of fixed length.
Rules: 00_scope.md sections 1.7 and 1.9, R107, R167. -/

namespace Sys2Proof

/-- A byte of a management frame (R152). -/
abbrev Byte := BitVec 8

/-- A 40-bit byte address (00_scope section 1.7). -/
abbrev Addr := BitVec 40

/-- A 32-bit counter or tick stamp, which wraps from FFFFFFFFh to 0 (00_scope section 1.7, R29). -/
abbrev Word32 := BitVec 32

/-- The 32 bytes of one unit (00_scope section 1.7). -/
abbrev UnitData := BitVec 256

/-- The byte mask of a write unit, bit i for byte i (R167). -/
abbrev ByteMask := BitVec 32

/-- An initiator port, U0 to U3. -/
abbrev PortId := Fin 4

/-- A slot of the in-flight table; its index is the downstream tag (R67). -/
abbrev SlotId := Fin 32

/-- An account, 0 to 15 (R21). -/
abbrev AccountId := Fin 16

/-- A region, 0 to 15 (R1). -/
abbrev RegionId := Fin 16

/-- An upstream tag, 0 to 31 (R107). -/
abbrev Tag := Fin 32

/-- A privilege level, 0 to 3 (R107). -/
abbrev Level := Fin 4

/-- A link epoch, 0 to 3; adding 1 goes modulo 4 (R98). -/
abbrev Epoch := Fin 4

/-- A unit index, 0 to 15 (R89). -/
abbrev UnitIndex := Fin 16

/-- A set of ports, bit n for Un (R1, R166). -/
abbrev PortSet := BitVec 4

/-- A table of `n` rows. -/
abbrev Tab (n : Nat) (α : Type) := Vector α n

/-- Row `i` of a table. -/
def Tab.row {n : Nat} {α : Type} (t : Tab n α) (i : Fin n) : α := t[i.val]

/-- The table with row `i` replaced. -/
def Tab.setRow {n : Nat} {α : Type} (t : Tab n α) (i : Fin n) (x : α) : Tab n α := t.set i.val x i.isLt

/-- The table with row `i` changed by `f`. -/
def Tab.modRow {n : Nat} {α : Type} (t : Tab n α) (i : Fin n) (f : α → α) : Tab n α := t.setRow i (f (t.row i))

/-- The table with every row changed by `f`. -/
def Tab.mapRows {n : Nat} {α β : Type} (t : Tab n α) (f : α → β) : Tab n β := ⟨⟨t.toList.map f⟩, by simp⟩

/-- The table of `n` equal rows. -/
def Tab.const (n : Nat) {α : Type} (x : α) : Tab n α := Vector.replicate n x

/-- The four ports in the order U0, U1, U2, U3. -/
def allPorts : List PortId := [0, 1, 2, 3]

/-- The 32 slots, lowest index first. -/
def allSlots : List SlotId := List.finRange 32

/-- The 16 regions, lowest index first. -/
def allRegions : List RegionId := List.finRange 16

end Sys2Proof
end

