-- ==== Sys2Proof/Config.lean ====
section
/-! DEFINITION. What the part fixes: the sizes of 00_scope.md section 1.9 and the identity codes of R165.
The manual leaves no result value open, so there is no free value here (NOTES.md, Assumptions). -/

namespace Sys2Proof.Config

/-- Entries an admission queue holds at most (R42). -/
abbrev queueCapacity : Nat := 16

/-- Records a data order list holds at most (R114). -/
abbrev listCapacity : Nat := 16

/-- Buffer units set aside for each port (R118). -/
abbrev reserveUnits : Nat := 16

/-- Buffer units shared by all ports (R118). -/
abbrev sharedUnits : Nat := 64

/-- Units of the write data buffer (R118). -/
abbrev bufferUnits : Nat := 128

/-- Longest well-formed request, in units (R9). -/
abbrev maxLength : Nat := 16

/-- Bytes of one unit (00_scope section 1.7). -/
abbrev unitBytes : Nat := 32

/-- One past the last byte of the 40-bit address space (R9). -/
abbrev addressSpace : Nat := 2 ^ 40

/-- Value at which the age of a queue entry stays (R34). -/
abbrev maxEntryAge : Nat := 4095

/-- Value at which the count of the check record stays (R131). -/
abbrev maxCheckCount : Nat := 255

/-- Largest advertised credits (R94). -/
abbrev maxCredits : Nat := 32

/-- Vendor code returned by READ IDENT (R165). -/
def vendorCode : Nat := 0x03A9

/-- Part code returned by READ IDENT (R165). -/
def partCode : Nat := 0x0416

/-- Revision code returned by READ IDENT (R165). -/
def revisionCode : Nat := 0x01

/-- The byte SDO carries where it carries no response (R164). -/
def filler : Byte := 0xFF

/-- Bytes of the turnaround (Table 9-1). -/
def turnaround : Nat := 2

end Sys2Proof.Config
end

