-- ==== Sys2Proof/Syntax.lean ====
section
/-! DEFINITION. The commands of the block: one constructor of `Instr` for each row of spec/opcode_table.json, with the
messages and frame bytes they carry (R89, R107, R152 to R154, R165, R167). -/

namespace Sys2Proof

/-- The kind code of a REQUEST, 2 bits (R107, R167). -/
inductive ReqKind where
  | read
  | write
  | fence
  /-- The one code that names none of READ, WRITE and FENCE (R9). -/
  | unnamed
  deriving DecidableEq, Repr

/-- The kind of a granted request (R88). -/
inductive Dir where
  | read
  | write
  deriving DecidableEq, Repr

/-- A REQUEST message as it stands on Un_REQ (R107). Of a FENCE the address and length are not kept (R17). -/
structure RequestMsg where
  tag : Tag
  kind : ReqKind
  addr : Addr
  /-- The length field as carried, 0 to 31. -/
  len : Fin 32
  level : Level
  deriving DecidableEq, Repr

/-- A WRITE UNIT message as it stands on Un_WDAT (R107). -/
structure WriteUnitMsg where
  data : UnitData
  /-- Absent means all 32 bytes. -/
  mask : Option ByteMask
  /-- The parity result is bad. -/
  bad : Bool
  deriving DecidableEq, Repr

/-- The integrity code of a READ UNIT from memory, 2 bits (R89, R167). -/
inductive Integrity where
  | clean
  | corrected
  | poisoned
  /-- The code that names none of the three. -/
  | unnamed
  deriving DecidableEq, Repr

/-- The outcome code of a WRITE DONE, 2 bits (R89, R167). -/
inductive WriteOutcome where
  | ok
  | failed
  /-- Code 2 or 3, which name neither. -/
  | unnamed
  deriving DecidableEq, Repr

/-- The commands of the block, one constructor for each row of spec/opcode_table.json. A management command carries the
index byte and the command payload of its frame; its command check is the one that matches (R154). -/
inductive Instr where
  /-- RST_N goes low, or power comes on; `withdrawn`: the initiators take back what they offered (log 8). -/
  | fullReset (withdrawn : Bool)
  | rstNRelease
  /-- The reset line of port `p` goes low; `withdrawn`: the initiator drops what it offered before (R126, log 8). -/
  | portReset (p : PortId) (withdrawn : Bool)
  | portResetRelease (p : PortId)
  /-- The initiator of `p` offers a REQUEST on Un_REQ. -/
  | request (p : PortId) (m : RequestMsg)
  /-- The initiator of `p` offers a WRITE UNIT on Un_WDAT. -/
  | writeUnit (p : PortId) (u : WriteUnitMsg)
  /-- REFCLK runs for `cycles` cycles, or until it brings a tick if that is sooner (R28, log 7). -/
  | tick (cycles : Nat)
  | urgentMark (p : PortId)
  | responseTimeout (i : SlotId)
  | detachedTimeout (i : SlotId)
  | orphanLimitExpiry (i : SlotId)
  | grant
  | retireRefused (p : PortId)
  | retireDataerr (p : PortId)
  | retireFence (p : PortId)
  | failFast (p : PortId)
  | drainComplete
  /-- Credits are a 6-bit field, 0 to 63 as carried (R167). -/
  | advertise (epoch : Epoch) (credits : Fin 64)
  | readUnit (epoch : Epoch) (dtag : SlotId) (idx : UnitIndex) (data : UnitData) (integrity : Integrity)
  | writeDone (epoch : Epoch) (dtag : SlotId) (outcome : WriteOutcome)
  /-- A message whose kind code names no message; nothing else in it is read (R89). -/
  | unknownLinkMessage
  | csNFall
  /-- CS_N rises after the host has clocked `clocked` whole bytes of the transaction. -/
  | csNRise (clocked : Nat)
  /-- A whole command frame is received whose check byte does not match. -/
  | badFrame (code index : Byte) (payload : List Byte) (check : Byte)
  /-- A frame with a matching check is received whose code names no command; its payload is empty (R153). -/
  | unknownCommand (code index : Byte)
  | readIdent (index : Byte)
  | readStatus (index : Byte)
  | readRegion (index : Byte)
  | writeRegion (index : Byte) (payload : Tab 14 Byte)
  | readAccount (index : Byte)
  | writeAccount (index : Byte) (payload : Tab 11 Byte)
  | readPort (index : Byte)
  | writePort (index : Byte) (payload : Tab 6 Byte)
  | readTiming (index : Byte)
  | writeTiming (index : Byte) (payload : Tab 7 Byte)
  /-- SET MODE with target code 00h, or with a code that names no target, which has no row of its own (R144, log 11). -/
  | setModePass (index : Byte) (target : Byte)
  | setModeRegulate (index : Byte)
  | setModeDrain (index : Byte)
  | resetLink (index : Byte)
  | readCheckRecord (index : Byte)
  | clearChecks (index : Byte) (payload : Tab 2 Byte)
  | readCounters (index : Byte) (groupKind : Byte)
  | clearCounters (index : Byte) (groupKind : Byte)
  | readSlot (index : Byte)
  | setAlertMask (index : Byte) (mask : Byte)
  | ackAlert (index : Byte) (causes : Byte)
  deriving DecidableEq, Repr

end Sys2Proof
end

