-- ==== Sys2Proof/Machine/Frames.lean ====
section
/-! DEFINITION. The check byte of a management frame (R152, R164) and the table of command codes with their payload lengths
(R153, R165). -/

namespace Sys2Proof

/-- One of the eight shifts of the check computation (R164 step 3). -/
def crcShift (r : Byte) : Byte := if r.getLsbD 7 then (r <<< 1) ^^^ 0x07 else r <<< 1

/-- The register after one more byte (R164 steps 2 and 3). -/
def crcByte (r b : Byte) : Byte :=
  crcShift (crcShift (crcShift (crcShift (crcShift (crcShift (crcShift (crcShift (r ^^^ b))))))))

/-- The CRC-8 of the bytes in the order they travel (R152, R164). -/
def crc8 (bs : List Byte) : Byte := bs.foldl crcByte 0

/-- Command and response payload lengths of a command code (Table 10-1); none where the code names no command. -/
def codeLengths (code : Byte) : Option (Nat × Nat) :=
  match code.toNat with
  | 0x01 => some (0, 5)
  | 0x02 => some (0, 27)
  | 0x10 => some (0, 14)
  | 0x11 => some (14, 0)
  | 0x12 => some (0, 13)
  | 0x13 => some (11, 0)
  | 0x14 => some (0, 6)
  | 0x15 => some (6, 0)
  | 0x16 => some (0, 7)
  | 0x17 => some (7, 0)
  | 0x20 => some (1, 0)
  | 0x21 => some (0, 0)
  | 0x30 => some (0, 21)
  | 0x31 => some (2, 0)
  | 0x32 => some (1, 20)
  | 0x33 => some (1, 0)
  | 0x34 => some (0, 28)
  | 0x40 => some (1, 0)
  | 0x41 => some (1, 0)
  | _ => none

/-- Length of the command payload; 0 where the code names no command (R153). -/
def commandLength (code : Byte) : Nat := ((codeLengths code).map Prod.fst).getD 0

/-- Length of the response payload under every status but BAD_FRAME and UNKNOWN_COMMAND (R156, R165). -/
def responseLength (code : Byte) : Nat := ((codeLengths code).map Prod.snd).getD 0

end Sys2Proof
end

