-- ==== Sys2Proof/WellFormed.lean ====
section
/-! DEFINITION. `Instr.wf`: the checks on a command's operands that its type does not make (R9, R28, R144, R153, R154). -/

namespace Sys2Proof

/-- What makes a command a possible one: a TICK lasts at least one cycle; a bad frame has the length its code fixes and a
check that differs from the computed one; an unknown command's code names no command; a SET MODE PASS carries target code
00h or a code above 02h. -/
def Instr.wf : Instr → Bool
  | .tick cycles => decide (0 < cycles)
  | .badFrame code index payload check =>
    decide (payload.length = commandLength code) && decide (crc8 (code :: index :: payload) ≠ check)
  | .unknownCommand code _ => (codeLengths code).isNone
  | .setModePass _ target => decide (target.toNat = 0 ∨ 2 < target.toNat)
  | _ => true

end Sys2Proof
end

