-- ==== Sys2Proof/Decode.lean ====
section
/-! DEFINITION. Management frames (R152 to R154, R164, R165): which command a whole received frame is, the frame of a
command, and the fixed name `decodeTableWord`. The check byte and the command code table stand in Machine/Frames.lean. No row of
spec/opcode_table.json gives bits. -/

namespace Sys2Proof

/-- A table of `n` bytes read from the front of a list, 00h where the list is too short. -/
def toTab (n : Nat) (l : List Byte) : Tab n Byte := ⟨⟨(List.range n).map (fun k => l.getD k 0)⟩, by simp⟩

/-- The command named by a code, an index and a payload whose check matched (R154, R165). A SET MODE target that names
nothing stands with SET MODE PASS (log 11). -/
def namedCommand (code index : Byte) (payload : List Byte) : Option Instr :=
  match code.toNat with
  | 0x01 => some (.readIdent index)
  | 0x02 => some (.readStatus index)
  | 0x10 => some (.readRegion index)
  | 0x11 => some (.writeRegion index (toTab 14 payload))
  | 0x12 => some (.readAccount index)
  | 0x13 => some (.writeAccount index (toTab 11 payload))
  | 0x14 => some (.readPort index)
  | 0x15 => some (.writePort index (toTab 6 payload))
  | 0x16 => some (.readTiming index)
  | 0x17 => some (.writeTiming index (toTab 7 payload))
  | 0x20 =>
    match (payload.getD 0 0).toNat with
    | 1 => some (.setModeRegulate index)
    | 2 => some (.setModeDrain index)
    | _ => some (.setModePass index (payload.getD 0 0))
  | 0x21 => some (.resetLink index)
  | 0x30 => some (.readCheckRecord index)
  | 0x31 => some (.clearChecks index (toTab 2 payload))
  | 0x32 => some (.readCounters index (payload.getD 0 0))
  | 0x33 => some (.clearCounters index (payload.getD 0 0))
  | 0x34 => some (.readSlot index)
  | 0x40 => some (.setAlertMask index (payload.getD 0 0))
  | 0x41 => some (.ackAlert index (payload.getD 0 0))
  | _ => none

/-- The command that a frame with index, payload and check is (R153, R154); none when the frame is not of the length its
code fixes. -/
def decodeParts (code index : Byte) (rest : List Byte) : Option Instr :=
  if rest.length = commandLength code + 1 then
    let payload := rest.take (commandLength code)
    let check := rest.getD (commandLength code) 0
    if crc8 (code :: index :: payload) = check then
      match namedCommand code index payload with
      | some c => some c
      | none => some (.unknownCommand code index)
    else some (.badFrame code index payload check)
  else none

/-- The command that the bytes of a whole frame, code to check, are. -/
def decodeFrame : List Byte → Option Instr
  | code :: index :: rest => decodeParts code index rest
  | _ => none

/-- Code, index and payload of a management command; none for the other rows. -/
def commandBytes : Instr → Option (List Byte)
  | .unknownCommand code index => some [code, index]
  | .readIdent index => some [0x01, index]
  | .readStatus index => some [0x02, index]
  | .readRegion index => some [0x10, index]
  | .writeRegion index pl => some (0x11 :: index :: pl.toList)
  | .readAccount index => some [0x12, index]
  | .writeAccount index pl => some (0x13 :: index :: pl.toList)
  | .readPort index => some [0x14, index]
  | .writePort index pl => some (0x15 :: index :: pl.toList)
  | .readTiming index => some [0x16, index]
  | .writeTiming index pl => some (0x17 :: index :: pl.toList)
  | .setModePass index target => some [0x20, index, target]
  | .setModeRegulate index => some [0x20, index, 0x01]
  | .setModeDrain index => some [0x20, index, 0x02]
  | .resetLink index => some [0x21, index]
  | .readCheckRecord index => some [0x30, index]
  | .clearChecks index pl => some (0x31 :: index :: pl.toList)
  | .readCounters index g => some [0x32, index, g]
  | .clearCounters index g => some [0x33, index, g]
  | .readSlot index => some [0x34, index]
  | .setAlertMask index m => some [0x40, index, m]
  | .ackAlert index m => some [0x41, index, m]
  | _ => none

/-- The whole frame of a management command, its check included (R154, R164). -/
def encodeFrame : Instr → Option (List Byte)
  | .badFrame code index payload check => some (code :: index :: (payload ++ [check]))
  | c => (commandBytes c).map (fun bs => bs ++ [crc8 bs])

/-- No row of spec/opcode_table.json gives bits, so no word spells a command. -/
def decodeTableWord (_nbits _w : Nat) : Option Instr := none

end Sys2Proof
end

