-- ==== Sys2Proof/Machine/State.lean ====
section
/-! DEFINITION. The state of the KM-416, block by block as 00_scope.md Table 1-1 names them, each piece with its reset value;
the stop reasons; and `State.reset`. INVENTORY.md lists every piece with its rule. -/

namespace Sys2Proof.Machine

/-! ### Names of fixed sets -/

/-- Which region-bound checks are recorded (R130). -/
inductive ReportMode where
  | off
  | protection
  | memory
  | all
  deriving DecidableEq, Repr

/-- What is to happen to a queue entry at the head (R18). -/
inductive Disposition where
  | issue
  | refused
  | dataerr
  | fence
  deriving DecidableEq, Repr

/-- The part-wide mode (R142). -/
inductive Mode where
  | pass
  | regulate
  | draining
  | quiesced
  deriving DecidableEq, Repr

/-- The mode under which an entry was admitted (R8). -/
inductive AdmissionMode where
  | pass
  | regulate
  deriving DecidableEq, Repr

/-- Whether an entry's write data is complete (R18). -/
inductive DataState where
  | waitingData
  | complete
  deriving DecidableEq, Repr

/-- The final status of a request (R121). -/
inductive DoneStatus where
  | ok
  | refused
  | dataerr
  | memerr
  | timeout
  | aborted
  deriving DecidableEq, Repr

/-- The service class of an account (R23). -/
inductive AccountClass where
  | realtime
  | budgeted
  | background
  deriving DecidableEq, Repr

/-- What a port does with a request no region matches (R11). -/
inductive NoRegionPolicy where
  | default
  | refuse
  deriving DecidableEq, Repr

/-- Whether a data order list record's units are kept or dropped (R114). -/
inductive RecordMode where
  | store
  | sink
  deriving DecidableEq, Repr

/-- The progress of a slot (R65). -/
inductive SlotState where
  | free
  | issued
  | returning
  | orphaned
  deriving DecidableEq, Repr

/-- The stage of the memory link (R91). -/
inductive LinkState where
  | waitCredit
  | online
  | failed
  deriving DecidableEq, Repr

/-- The fourteen check kinds, in the order of Table 7-1 (R128). -/
inductive CheckKind where
  | linkFailed
  | timeout
  | memPoisoned
  | memWriteFailed
  | protection
  | boundary
  | noRegion
  | malformed
  | dataParity
  | dupTag
  | strayData
  | linkProtocol
  | memCorrected
  | late
  deriving DecidableEq, Repr

/-! ### Messages the part sends -/

/-- A unit of write data as it is held in the write data buffer and sent in an ISSUE (R88, R115). -/
structure BufUnit where
  data : UnitData
  mask : Option ByteMask
  deriving DecidableEq, Repr

/-- A message on Un_RSP (R108). -/
inductive RspMsg where
  | readUnit (tag : Tag) (idx : UnitIndex) (data : UnitData) (poisoned : Bool)
  | done (tag : Tag) (status : DoneStatus)
  deriving DecidableEq, Repr

/-- A message on ML_DN (R88). -/
inductive DnMsg where
  | restart (epoch : Epoch)
  /-- `lengthField` holds the length less 1 (R167). -/
  | issue (epoch : Epoch) (dtag : SlotId) (dir : Dir) (addr : Addr) (lengthField : BitVec 4)
      (units : Option (List BufUnit))
  deriving DecidableEq, Repr

/-! ### Port controllers -/

/-- A queue entry (R18, R34, R35). -/
structure Entry where
  tag : Tag
  kind : ReqKind
  /-- Absent for a FENCE (R17). -/
  addr : Option Addr
  /-- As carried; absent for a FENCE (R17). -/
  len : Option (Fin 32)
  disposition : Disposition
  admission : AdmissionMode
  region : Option RegionId
  account : Option AccountId
  guard : Bool
  report : ReportMode
  data : DataState
  /-- The units the entry holds in the write data buffer, unit 0 first. -/
  held : List BufUnit
  age : Nat
  urgent : Bool
  /-- The tick just taken found the urgent mark due (the model's own field, log 7). -/
  markDue : Bool
  deriving DecidableEq, Repr

/-- A data order list record (R114). -/
structure ListRecord where
  mode : RecordMode
  expected : Nat
  taken : Nat
  /-- The tag of the queue entry it belongs to, or absent for a discard record (log 14). -/
  entry : Option Tag
  deriving DecidableEq, Repr

/-- The port configuration (R123). -/
structure PortConfig where
  readLimit : Nat
  writeLimit : Nat
  defaultAccount : AccountId
  noRegion : NoRegionPolicy
  defaultGuard : Bool
  defaultReport : ReportMode
  deriving DecidableEq, Repr

/-- The port counters (R124). -/
structure PortCounters where
  accepted : Word32
  refused : Word32
  timedOut : Word32
  aborted : Word32
  deriving DecidableEq, Repr

/-- A port controller (R109) with its pins. -/
structure Port where
  queue : List Entry
  list : List ListRecord
  tags : Tab 32 Bool
  owedReads : Nat
  owedWrites : Nat
  config : PortConfig
  counters : PortCounters
  /-- The port reset line Un_RST_N is low (R126). -/
  resetLow : Bool
  /-- REQUEST messages offered on Un_REQ and not taken, oldest first (R107, R110). -/
  reqOffers : List RequestMsg
  /-- WRITE UNIT messages offered on Un_WDAT and not taken, oldest first (R107, R119). -/
  dataOffers : List WriteUnitMsg
  /-- Messages sent on Un_RSP, oldest first (R108, log 13). -/
  rsp : List RspMsg
  deriving DecidableEq, Repr

/-- Reset values of Table 6-6 for port `p`. -/
def PortConfig.reset (p : PortId) : PortConfig :=
  { readLimit := 8, writeLimit := 8, defaultAccount := p.castLE (by decide), noRegion := .default,
    defaultGuard := true, defaultReport := .all }

/-- Counters at 0 (R124). -/
def PortCounters.zero : PortCounters := { accepted := 0, refused := 0, timedOut := 0, aborted := 0 }

/-- Port `p` after full reset (Table 6-3). -/
def Port.reset (p : PortId) : Port :=
  { queue := [], list := [], tags := Tab.const 32 false, owedReads := 0, owedWrites := 0,
    config := PortConfig.reset p, counters := PortCounters.zero, resetLow := false, reqOffers := [], dataOffers := [],
    rsp := [] }

/-! ### Classifier and account unit -/

/-- The account a region charges for a port (R1). -/
inductive AccountSelection where
  | account (a : AccountId)
  | portDefault
  deriving DecidableEq, Repr

/-- A region entry (R1, Table 1-2). -/
structure RegionEntry where
  valid : Bool
  base : Addr
  /-- Size code c: the region is 2^(12+c) bytes long (R2). -/
  sizeCode : Fin 29
  readPorts : PortSet
  writePorts : PortSet
  readLevel : Level
  writeLevel : Level
  selection : Tab 4 AccountSelection
  guard : Bool
  report : ReportMode
  deriving DecidableEq, Repr

/-- Reset values of Table 1-2. -/
def RegionEntry.reset : RegionEntry :=
  { valid := false, base := 0, sizeCode := 0, readPorts := 0, writePorts := 0, readLevel := 0, writeLevel := 0,
    selection := Tab.const 4 (.account 0), guard := false, report := .off }

/-- The parameters of an account, which WRITE ACCOUNT replaces together (R37). -/
structure AccountParams where
  cls : AccountClass
  limit : Nat
  clip : Nat
  requestCharge : Nat
  unitCharge : Nat
  drain : Nat
  window : Nat
  spareUse : Bool
  deriving DecidableEq, Repr

/-- The counters of an account (R41). -/
structure AccountCounters where
  grants : Word32
  units : Word32
  overTicks : Word32
  urgentGrants : Word32
  spareGrants : Word32
  deriving DecidableEq, Repr

/-- An account record (R21) with its counters (R41). -/
structure Account where
  params : AccountParams
  balance : Nat
  counters : AccountCounters
  deriving DecidableEq, Repr

/-- Counters at 0 (R41). -/
def AccountCounters.zero : AccountCounters := { grants := 0, units := 0, overTicks := 0, urgentGrants := 0, spareGrants := 0 }

/-- Reset values of Table 2-1 and R41. -/
def Account.reset : Account :=
  { params := { cls := .background, limit := 65535, clip := 65535, requestCharge := 0, unitCharge := 1, drain := 1,
                window := 4095, spareUse := true },
    balance := 0, counters := AccountCounters.zero }

/-! ### Tick generator, slots, link, buffer -/

/-- The tick generator (R28, R29). -/
structure TickGen where
  period : Nat
  /-- REFCLK cycles since the last tick. -/
  count : Nat
  stamp : Word32
  deriving DecidableEq, Repr

/-- A slot record (R64, Table 4-1) with its age and time orphaned (R79). -/
structure Slot where
  state : SlotState
  detached : Bool
  port : PortId
  tag : Tag
  dir : Dir
  addr : Addr
  len : Nat
  account : Option AccountId
  region : Option RegionId
  guard : Bool
  report : ReportMode
  issueTick : Word32
  received : Tab 16 Bool
  poisoned : Bool
  orphanTick : Option Word32
  epoch : Epoch
  age : Nat
  timeOrphaned : Nat
  /-- The tick just taken found the slot's timeout or expiry due (the model's own field, log 7). -/
  due : Bool
  deriving DecidableEq, Repr

/-- Reset values of Table 4-1. -/
def Slot.reset : Slot :=
  { state := .free, detached := false, port := 0, tag := 0, dir := .read, addr := 0, len := 1, account := none,
    region := none, guard := false, report := .off, issueTick := 0, received := Tab.const 16 false, poisoned := false,
    orphanTick := none, epoch := 0, age := 0, timeOrphaned := 0, due := false }

/-- The slot timing settings (R79). -/
structure SlotTiming where
  responseTimeout : Nat
  orphanLimit : Nat
  deriving DecidableEq, Repr

/-- The memory link controller (R91). -/
structure Link where
  state : LinkState
  epoch : Epoch
  advertised : Nat
  deriving DecidableEq, Repr

/-- Values of Table 5-3 after full reset. -/
def Link.reset : Link := { state := .waitCredit, epoch := 0, advertised := 0 }

/-- The buffer units a port holds (R118). -/
structure BufCounts where
  reserve : Nat
  shared : Nat
  deriving DecidableEq, Repr

/-! ### Check unit -/

/-- A capture (R129). Its severity is fixed by its kind (R128). -/
structure Capture where
  kind : CheckKind
  port : Option PortId
  tag : Option Tag
  addr : Option Addr
  region : Option RegionId
  account : Option AccountId
  stamp : Word32
  deriving DecidableEq, Repr

/-- The check record (R131); `kinds` is indexed by kind code (R166). -/
structure CheckRecord where
  sequence : BitVec 16
  kinds : Tab 14 Bool
  count : Nat
  replaced : Bool
  primary : Option Capture
  deriving DecidableEq, Repr

/-- One bit for each alert cause (R137). -/
structure AlertSet where
  check : Bool
  quiesced : Bool
  linkOnline : Bool
  linkFailed : Bool
  deriving DecidableEq, Repr

/-- The global counters (R141). -/
structure GlobalCounters where
  late : Word32
  stale : Word32
  suppressed : Word32
  deriving DecidableEq, Repr

/-- The check unit (R131, R137, R141). -/
structure CheckUnit where
  record : CheckRecord
  pending : AlertSet
  mask : AlertSet
  globals : GlobalCounters
  deriving DecidableEq, Repr

/-- Counters at 0 (R141). -/
def GlobalCounters.zero : GlobalCounters := { late := 0, stale := 0, suppressed := 0 }

/-- No cause. -/
def AlertSet.empty : AlertSet := { check := false, quiesced := false, linkOnline := false, linkFailed := false }

/-- All four causes. -/
def AlertSet.full : AlertSet := { check := true, quiesced := true, linkOnline := true, linkFailed := true }

/-- The check unit after full reset (Table 7-4, R137, R141). -/
def CheckUnit.reset : CheckUnit :=
  { record := { sequence := 0, kinds := Tab.const 14 false, count := 0, replaced := false, primary := none },
    pending := AlertSet.empty, mask := AlertSet.full, globals := GlobalCounters.zero }

/-! ### Management port controller -/

/-- The transaction in progress: the bytes received so far, whose number is the position reached, and the response
(R152, log 12). -/
inductive Transaction where
  /-- No transaction, nothing held: CS_N is high, or was low already when RST_N was released. -/
  | idle
  /-- CS_N has fallen and the command check has not been received: the bytes received so far, the command code first. -/
  | begun (received : List Byte)
  /-- The command check has been received: the command bytes with it, and the response to shift out, status to check. -/
  | answered (command response : List Byte)
  deriving DecidableEq, Repr

/-- The management port controller with its pins (R152). -/
structure Mgmt where
  transaction : Transaction
  /-- CS_N is low. -/
  csLow : Bool
  /-- The bytes SDO carried in the transaction that last ended (log 12). -/
  sdo : List Byte
  deriving DecidableEq, Repr

/-! ### Stop reasons -/

/-- Reasons to stop with a fault: the spec names none, and no meaning raises one (safe). -/
inductive Fault where
  deriving DecidableEq, Repr

/-- Reasons to stop without a meaning. -/
inductive Refusal where
  /-- Raised by exec's arm of a command that has no meaning yet; no arm raises it now (safe). -/
  | notModelled (mnemonic : String)
  deriving DecidableEq, Repr

/-! ### The whole state -/

/-- The state of the part. -/
structure State where
  ports : Tab 4 Port
  regions : Tab 16 RegionEntry
  accounts : Tab 16 Account
  ticks : TickGen
  /-- The round-robin pointer: the last granted port (R57). -/
  pointer : PortId
  slots : Tab 32 Slot
  timing : SlotTiming
  link : Link
  buffer : Tab 4 BufCounts
  chk : CheckUnit
  mode : Mode
  mgmt : Mgmt
  /-- RST_N is low (R92). -/
  rstLow : Bool
  /-- Messages sent on ML_DN, oldest first (R88, log 13). -/
  mlDn : List DnMsg
  /-- The commands that wait, first in, first out (log 1). -/
  pending : List Instr
  deriving DecidableEq, Repr

/-- Every table, record, queue, slot, counter and the mode at its full-reset value, RST_N still low and nothing sent. -/
def State.held : State :=
  { ports := ⟨⟨allPorts.map Port.reset⟩, by decide⟩,
    regions := Tab.const 16 RegionEntry.reset,
    accounts := Tab.const 16 Account.reset,
    ticks := { period := 1024, count := 0, stamp := 0 },
    pointer := 3,
    slots := Tab.const 32 Slot.reset,
    timing := { responseTimeout := 64, orphanLimit := 256 },
    link := Link.reset,
    buffer := Tab.const 4 { reserve := 0, shared := 0 },
    chk := CheckUnit.reset,
    mode := .pass,
    mgmt := { transaction := .idle, csLow := false, sdo := [] },
    rstLow := true,
    mlDn := [],
    pending := [] }

/-- The machine right after reset: RST_N has been released and the one RESTART of R92 has been sent (log 9). -/
def State.reset : State := { State.held with rstLow := false, mlDn := [.restart 0] }

end Sys2Proof.Machine
end

