-- ==== Sys2Proof/Machine/Messages.lean ====
section
/-! DEFINITION. The codes and fields of port and link messages (R167, Table 10-4): the message that arriving fields are, and
the fields that a sent message carries. How the fields lie on the wires is the data sheet's. -/

namespace Sys2Proof.Machine

/-! ### Codes -/

/-- Code of a kind, 1 bit (R166, R167). -/
def dirCode : Dir → Nat
  | .read => 0
  | .write => 1

/-- Code of a DONE status, 3 bits (R167). -/
def DoneStatus.code : DoneStatus → Fin 8
  | .ok => 0
  | .refused => 1
  | .dataerr => 2
  | .memerr => 3
  | .timeout => 4
  | .aborted => 5

/-- The kind a 2-bit REQUEST kind field names (R167). -/
def reqKindOf (code : Fin 4) : ReqKind :=
  match code with
  | 0 => .read
  | 1 => .write
  | 2 => .fence
  | 3 => .unnamed

/-- The integrity a 2-bit field of a READ UNIT from memory names (R167). -/
def integrityOf (code : Fin 4) : Integrity :=
  match code with
  | 0 => .clean
  | 1 => .corrected
  | 2 => .poisoned
  | 3 => .unnamed

/-- The outcome a 2-bit field of a WRITE DONE names (R167). -/
def writeOutcomeOf (code : Fin 4) : WriteOutcome :=
  match code with
  | 0 => .ok
  | 1 => .failed
  | 2 => .unnamed
  | 3 => .unnamed

/-- The 4-bit length field of an ISSUE holds the length less 1 (R167). -/
def issueLengthField (len : Nat) : BitVec 4 := BitVec.ofNat 4 (len - 1)

/-- The length that the length field of an ISSUE holds (R167). -/
def issueLength (field : BitVec 4) : Nat := field.toNat + 1

/-! ### Arriving messages -/

/-- The REQUEST that the fields on Un_REQ are (R167). -/
def requestOf (tag : Tag) (kind : Fin 4) (addr : Addr) (len : Fin 32) (level : Level) : RequestMsg :=
  { tag := tag, kind := reqKindOf kind, addr := addr, len := len, level := level }

/-- The WRITE UNIT that the fields on Un_WDAT are; without the mask-present bit its byte mask is absent (R167). -/
def writeUnitOf (data : UnitData) (maskPresent : Bool) (mask : ByteMask) (parity : Fin 2) : WriteUnitMsg :=
  { data := data, mask := if maskPresent then some mask else none, bad := parity == 1 }

/-- The command that a message on ML_UP with this kind code is; it reads only the fields its kind carries (R89, R167). -/
def linkMessageOf (kind : Fin 4) (epoch : Epoch) (credits : Fin 64) (dtag : SlotId) (idx : UnitIndex) (data : UnitData)
    (integrity outcome : Fin 4) : Instr :=
  match kind with
  | 0 => .advertise epoch credits
  | 1 => .readUnit epoch dtag idx data (integrityOf integrity)
  | 2 => .writeDone epoch dtag (writeOutcomeOf outcome)
  | 3 => .unknownLinkMessage

/-! ### Sent messages -/

/-- A field of a message: its width in bits and its code. -/
structure MsgField where
  width : Nat
  code : Nat
  deriving DecidableEq, Repr

/-- A unit of write data in an ISSUE: as a WRITE UNIT, without the parity bit (R167). -/
def BufUnit.fields (u : BufUnit) : List MsgField :=
  ⟨256, u.data.toNat⟩ ::
    match u.mask with
    | none => [⟨1, 0⟩]
    | some m => [⟨1, 1⟩, ⟨32, m.toNat⟩]

/-- The fields of a message on Un_RSP (R108, R167). -/
def RspMsg.fields : RspMsg → List MsgField
  | .readUnit tag idx data poisoned => [⟨5, tag.val⟩, ⟨4, idx.val⟩, ⟨256, data.toNat⟩, ⟨1, if poisoned then 1 else 0⟩]
  | .done tag status => [⟨5, tag.val⟩, ⟨3, status.code.val⟩]

/-- The message kind of a message on ML_DN, 1 bit (R167). -/
def DnMsg.kindCode : DnMsg → Fin 2
  | .restart _ => 0
  | .issue _ _ _ _ _ _ => 1

/-- The fields of a message on ML_DN after its kind: a RESTART carries the epoch alone (R88, R167). -/
def DnMsg.fieldsAfterKind : DnMsg → List MsgField
  | .restart epoch => [⟨2, epoch.val⟩]
  | .issue epoch dtag dir addr lengthField units =>
    [⟨2, epoch.val⟩, ⟨5, dtag.val⟩, ⟨1, dirCode dir⟩, ⟨40, addr.toNat⟩, ⟨4, lengthField.toNat⟩]
      ++ (units.getD []).flatMap BufUnit.fields

/-- The fields of a message on ML_DN (R88, R167). -/
def DnMsg.fields (m : DnMsg) : List MsgField := ⟨1, m.kindCode.val⟩ :: m.fieldsAfterKind

end Sys2Proof.Machine
end

