-- ==== Sys2Proof/Machine/Ops.lean ====
section
/-! DEFINITION. The named operations over the blocks: changing a port, slot, account or buffer row, sending a message,
recording a check, raising an alert cause, giving and releasing buffer units, and freeing slots.
Rules: R68, R84, R108, R111, R115, R118 to R120, R128 to R132, R137. -/

namespace Sys2Proof.Machine

/-! ### Rows of the tables -/

def State.port (s : State) (p : PortId) : Port := s.ports.row p
def State.slot (s : State) (i : SlotId) : Slot := s.slots.row i
def State.account (s : State) (a : AccountId) : Account := s.accounts.row a
def State.bufCounts (s : State) (p : PortId) : BufCounts := s.buffer.row p

def State.modPort (s : State) (p : PortId) (f : Port → Port) : State := { s with ports := s.ports.modRow p f }
def State.setSlot (s : State) (i : SlotId) (x : Slot) : State := { s with slots := s.slots.setRow i x }
def State.modAccount (s : State) (a : AccountId) (f : Account → Account) : State :=
  { s with accounts := s.accounts.modRow a f }
def State.setBuf (s : State) (p : PortId) (b : BufCounts) : State := { s with buffer := s.buffer.setRow p b }

/-! ### Messages and tags -/

/-- A message is sent on ML_DN (R88). -/
def State.sendDn (s : State) (m : DnMsg) : State := { s with mlDn := s.mlDn ++ [m] }

/-- A message is sent on the port's Un_RSP (R108). -/
def Port.send (po : Port) (m : RspMsg) : Port := { po with rsp := po.rsp ++ [m] }

/-- The tag joins the outstanding tag set (R111). -/
def Port.addTag (po : Port) (t : Tag) : Port := { po with tags := po.tags.setRow t true }

/-- The tag leaves the outstanding tag set (R111). -/
def Port.dropTag (po : Port) (t : Tag) : Port := { po with tags := po.tags.setRow t false }

/-- A DONE is sent and its tag leaves the set, at one event (R121). -/
def Port.done (po : Port) (t : Tag) (st : DoneStatus) : Port := (po.send (.done t st)).dropTag t

/-- The owed count of a kind rises by 1 (R58, R122). -/
def Port.owe (po : Port) : Dir → Port
  | .read => { po with owedReads := po.owedReads + 1 }
  | .write => { po with owedWrites := po.owedWrites + 1 }

/-- The owed count of a kind falls by 1 (R122). -/
def Port.unowe (po : Port) : Dir → Port
  | .read => { po with owedReads := po.owedReads - 1 }
  | .write => { po with owedWrites := po.owedWrites - 1 }

/-- The port counter that a DONE of this status counts in, if any (Table 6-5). -/
def Port.countDone (po : Port) : DoneStatus → Port
  | .refused => { po with counters := { po.counters with refused := po.counters.refused + 1 } }
  | .timeout => { po with counters := { po.counters with timedOut := po.counters.timedOut + 1 } }
  | .aborted => { po with counters := { po.counters with aborted := po.counters.aborted + 1 } }
  | .ok => po
  | .dataerr => po
  | .memerr => po

/-- The queue entry with tag `t` changed by `f` (R114: the record's entry; tags in a queue differ, R42). -/
def Port.modEntry (po : Port) (t : Option Tag) (f : Entry → Entry) : Port :=
  { po with queue := po.queue.map (fun e => if t = some e.tag then f e else e) }

/-! ### Checks (R128 to R132) -/

/-- Severity of a kind, 4 the most severe (Table 7-1). -/
def CheckKind.severity : CheckKind → Nat
  | .linkFailed => 4
  | .timeout => 3
  | .memPoisoned => 3
  | .memWriteFailed => 3
  | .protection => 2
  | .boundary => 2
  | .noRegion => 2
  | .malformed => 2
  | .dataParity => 2
  | .dupTag => 2
  | .strayData => 2
  | .linkProtocol => 2
  | .memCorrected => 1
  | .late => 1

/-- Code of a kind, 0 to 13 in the order of Table 7-1 (R166). -/
def CheckKind.code : CheckKind → Fin 14
  | .linkFailed => 0
  | .timeout => 1
  | .memPoisoned => 2
  | .memWriteFailed => 3
  | .protection => 4
  | .boundary => 5
  | .noRegion => 6
  | .malformed => 7
  | .dataParity => 8
  | .dupTag => 9
  | .strayData => 10
  | .linkProtocol => 11
  | .memCorrected => 12
  | .late => 13

/-- Whether a check of this kind is recorded under this report mode (R130, Table 7-3); region-less kinds always are. -/
def CheckKind.recordedUnder (k : CheckKind) (r : ReportMode) : Bool :=
  match k with
  | .protection | .boundary => r == .protection || r == .all
  | .timeout | .memPoisoned | .memWriteFailed | .memCorrected | .dataParity => r == .memory || r == .all
  | .linkFailed | .noRegion | .malformed | .dupTag | .strayData | .linkProtocol | .late => true

/-- The primary capture and the replaced flag after a capture is recorded (R132 step 4). -/
def CheckRecord.decidePrimary (r : CheckRecord) (c : Capture) : CheckRecord :=
  match r.primary with
  | none => { r with primary := some c }
  | some old => if old.kind.severity ≤ c.kind.severity then { r with primary := some c, replaced := true } else r

/-- Steps 1 to 4 of R132. -/
def CheckRecord.add (r : CheckRecord) (c : Capture) : CheckRecord :=
  { r.decidePrimary c with
    sequence := r.sequence + 1
    kinds := r.kinds.setRow c.kind.code true
    count := if r.count < Config.maxCheckCount then r.count + 1 else r.count }

/-- The record emptied, its sequence kept (R135). -/
def CheckRecord.clear (r : CheckRecord) : CheckRecord :=
  { r with kinds := Tab.const 14 false, count := 0, replaced := false, primary := none }

/-- The check unit takes a check: it records it, raising CHECK, or counts it as suppressed (R130, R132). -/
def CheckUnit.raise (u : CheckUnit) (r : ReportMode) (c : Capture) : CheckUnit :=
  if c.kind.recordedUnder r then
    { u with record := u.record.add c, pending := { u.pending with check := true } }
  else { u with globals := { u.globals with suppressed := u.globals.suppressed + 1 } }

/-- A check is raised with the fields of its capture and the tick stamp as it stands (R129). -/
def State.raise (s : State) (r : ReportMode) (c : Capture) : State := { s with chk := s.chk.raise r c }

/-- A capture with no optional field: LINK_FAILED and LINK_PROTOCOL (Table 7-2). -/
def State.bareCapture (s : State) (k : CheckKind) : Capture :=
  { kind := k, port := none, tag := none, addr := none, region := none, account := none, stamp := s.ticks.stamp }

/-- The capture of a check raised for a slot (Table 7-2). -/
def State.slotCapture (s : State) (k : CheckKind) (sl : Slot) : Capture :=
  { kind := k, port := some sl.port, tag := some sl.tag, addr := some sl.addr, region := sl.region,
    account := sl.account, stamp := s.ticks.stamp }

/-- LINK_PROTOCOL is raised (R69, R89). -/
def State.linkProtocol (s : State) : State := s.raise .all (s.bareCapture .linkProtocol)

/-- The alert causes of R137. -/
inductive Cause where
  | quiesced
  | linkOnline
  | linkFailed
  deriving DecidableEq, Repr

/-- An alert cause other than CHECK is raised: its pending flag is set (R137). -/
def State.alert (s : State) (c : Cause) : State :=
  let p := s.chk.pending
  let p' : AlertSet :=
    match c with
    | .quiesced => { p with quiesced := true }
    | .linkOnline => { p with linkOnline := true }
    | .linkFailed => { p with linkFailed := true }
  { s with chk := { s.chk with pending := p' } }

/-! ### The write data buffer (R118 to R120) -/

/-- Shared units in use by all ports. -/
def State.sharedInUse (s : State) : Nat := (allPorts.map (fun p => (s.bufCounts p).shared)).sum

/-- Units held by all ports. -/
def State.unitsHeld (s : State) : Nat := (allPorts.map (fun p => (s.bufCounts p).reserve + (s.bufCounts p).shared)).sum

/-- Free units of the buffer (R118). -/
def State.freeUnits (s : State) : Nat := Config.bufferUnits - s.unitsHeld

/-- A buffer unit can be given to port `p` (R119, cases 1 and 2). -/
def State.bufferRoom (s : State) (p : PortId) : Bool :=
  decide ((s.bufCounts p).reserve < Config.reserveUnits) || decide (s.sharedInUse < Config.sharedUnits)

/-- The counts after a unit is given: a reserve unit first (R119). -/
def BufCounts.give (b : BufCounts) : BufCounts :=
  if b.reserve < Config.reserveUnits then { b with reserve := b.reserve + 1 } else { b with shared := b.shared + 1 }

/-- The counts after `n` units are released: shared units first (R120). -/
def BufCounts.release (b : BufCounts) (n : Nat) : BufCounts :=
  { shared := b.shared - n, reserve := b.reserve - (n - b.shared) }

/-- A record after one more unit is taken; it leaves the list with its last unit (R115). `mode` is its mode from now on. -/
def Port.advanceList (po : Port) (mode : RecordMode) : Port :=
  match po.list with
  | [] => po
  | r :: rest =>
    if r.taken + 1 < r.expected then { po with list := { r with taken := r.taken + 1, mode := mode } :: rest }
    else { po with list := rest }.modEntry r.entry (fun e => { e with data := .complete })

/-- The offered WRITE UNIT leaves Un_WDAT. -/
def Port.popData (po : Port) : Port := { po with dataOffers := po.dataOffers.tail }

/-- The oldest record of the port's list stores the unit `u`: it is given a buffer unit and joins the held units of the
record's entry (R115, R119). -/
def State.storeUnit (s : State) (p : PortId) (r : ListRecord) (u : WriteUnitMsg) : State :=
  (s.setBuf p (s.bufCounts p).give).modPort p (fun po =>
    (po.popData.modEntry r.entry (fun e => { e with held := e.held ++ [{ data := u.data, mask := u.mask }] })).advanceList .store)

/-- A WRITE UNIT that waits at port `q` by case 3 of R119 is offered again and taken if it can be given a unit (R120). -/
def State.offerAgain (s : State) (q : PortId) : State :=
  match (s.port q).dataOffers, (s.port q).list with
  | u :: _, r :: _ =>
    if !s.rstLow && !(s.port q).resetLow && r.mode == .store && !u.bad && s.bufferRoom q then s.storeUnit q r u else s
  | _, _ => s

/-- The ports in the order in which a release at `p` offers waiting units again (R120). -/
def releaseOrder (p : PortId) : List PortId := p :: allPorts.filter (fun q => q != p)

/-- Port `p` releases `n` buffer units, and the waiting units are offered again (R120). -/
def State.release (s : State) (p : PortId) (n : Nat) : State :=
  if n = 0 then s else (releaseOrder p).foldl State.offerAgain (s.setBuf p ((s.bufCounts p).release n))

/-! ### Slots (R65, R68, R84) -/

/-- The slot owes an answer to its port (R65). -/
def Slot.owes (sl : Slot) : Bool := (sl.state == .issued || sl.state == .returning) && !sl.detached

/-- The slot is freed and returns to its reset values (R68). -/
def State.freeSlot (s : State) (i : SlotId) : State := s.setSlot i Slot.reset

/-- A slot that owes an answer sends its DONE: the tag leaves the set, the owed count falls and the DONE is counted by its
status (R72, R73, R80, R84, R121). -/
def State.answerSlot (s : State) (sl : Slot) (st : DoneStatus) : State :=
  s.modPort sl.port (fun po => ((po.done sl.tag st).unowe sl.dir).countDone st)

/-- The freeing of one slot at a link failure or link reset (R84). -/
def State.abortSlot (s : State) (i : SlotId) : State :=
  (if (s.slot i).owes then s.answerSlot (s.slot i) .aborted else s).freeSlot i

/-- Every slot is freed, owed slots answered ABORTED in slot order (R84). -/
def State.freeAllSlots (s : State) : State := allSlots.foldl State.abortSlot s

/-- The entry of the link into FAILED, without the heads (R98, R100). -/
def State.linkFail (s : State) : State :=
  let s := { s with link := { state := .failed, epoch := s.link.epoch + 1, advertised := 0 } }
  let s := s.freeAllSlots
  (s.raise .all (s.bareCapture .linkFailed)).alert .linkFailed

end Sys2Proof.Machine
end

