-- ==== Sys2Proof/Machine/Flags.lean ====
section
/-! DEFINITION. What the blocks work out from the state and never store: over, available credits, the ordering guard, tiers
and eligibility, the retirement cases, the drain condition, the acceptance conditions, and what the output pins signal.
Rules: R22 to R24, R44, R47, R49 to R55, R76, R78, R93, R110, R115, R119, R126, R138, R146, R152. -/

namespace Sys2Proof.Machine

/-! ### Accounts -/

/-- The account is over: its balance is greater than its limit (R22). -/
def Account.over (a : Account) : Bool := decide (a.params.limit < a.balance)

/-- The five grant priorities, highest first (R55). -/
inductive Tier where
  | urgent
  | realtime
  | ordinary
  | background
  | spare
  deriving DecidableEq, Repr

/-- The tiers in rank order (Table 3-3). -/
def allTiers : List Tier := [.urgent, .realtime, .ordinary, .background, .spare]

/-- Tier of a class whose account is not over (R23). -/
def AccountClass.tier : AccountClass → Tier
  | .realtime => .realtime
  | .budgeted => .ordinary
  | .background => .background

/-- The tier in which an entry stands, or none when its account holds it (R24, R54, R55; a marked entry stands in URGENT
whatever its account's over state, log 6). -/
def State.tierOf (s : State) (e : Entry) : Option Tier :=
  if e.urgent then some .urgent
  else
    match e.account with
    | none => some .ordinary
    | some a =>
      if (s.account a).over then (if (s.account a).params.spareUse then some .spare else none)
      else some (s.account a).params.cls.tier

/-! ### Slots, credits and the ordering guard -/

/-- The slot is in use. -/
def Slot.busy (sl : Slot) : Bool := sl.state != .free

/-- The number of non-FREE slots: "slots in use" (R66). -/
def State.slotsInUse (s : State) : Nat := (s.slots.toList.filter Slot.busy).length

/-- The advertised credits less the number of non-FREE slots (R93). -/
def State.availableCredits (s : State) : Nat := s.link.advertised - s.slotsInUse

/-- No non-FREE slot holds the port's number (R78). -/
def State.portIdle (s : State) (p : PortId) : Bool := s.slots.toList.all (fun sl => !(sl.busy && sl.port == p))

/-- Every slot is FREE. -/
def State.allFree (s : State) : Bool := s.slots.toList.all (fun sl => !sl.busy)

/-- The kind under which an entry is granted: every kind but WRITE is a read (R9). -/
def dirOf : ReqKind → Dir
  | .write => .write
  | .read => .read
  | .fence => .read
  | .unnamed => .read

/-- First byte of an entry; a FENCE has none and is never asked about. -/
def Entry.first (e : Entry) : Nat := (e.addr.getD 0).toNat

/-- Length of an entry in units. -/
def Entry.units (e : Entry) : Nat := (e.len.getD 0).val

/-- Two byte ranges, each a first byte and a number of units, overlap (R76). -/
def rangesOverlap (a m b n : Nat) : Bool :=
  decide (a ≤ b + Config.unitBytes * n - 1) && decide (b ≤ a + Config.unitBytes * m - 1)

/-- The slot conflicts with a head: they overlap and one of them is a write (R76). -/
def Slot.conflicts (sl : Slot) (e : Entry) : Bool :=
  sl.busy && rangesOverlap sl.addr.toNat sl.len e.first e.units && (sl.dir == .write || dirOf e.kind == .write)

/-- The ordering guard is clear for the entry, or is not asked about because its guard is off (R53, R76). -/
def State.guardClear (s : State) (e : Entry) : Bool := !e.guard || s.slots.toList.all (fun sl => !sl.conflicts e)

/-! ### Eligibility (R49) -/

/-- The link is ONLINE with at least one available credit (R50). -/
def State.creditOk (s : State) : Bool := s.link.state == .online && decide (0 < s.availableCredits)

/-- The port's owed count for the kind is below its limit (R51). -/
def Port.owedOk (po : Port) : Dir → Bool
  | .read => decide (po.owedReads < po.config.readLimit)
  | .write => decide (po.owedWrites < po.config.writeLimit)

/-- A write's data is complete (R52). -/
def Entry.dataOk (e : Entry) : Bool := dirOf e.kind == .read || e.data == .complete

/-- The tier of the port's head when the head is eligible, and none otherwise (R49, R55). -/
def State.eligibleTier (s : State) (p : PortId) : Option Tier :=
  match (s.port p).queue with
  | [] => none
  | e :: _ =>
    if e.disposition == .issue && s.creditOk && (s.port p).owedOk (dirOf e.kind) && e.dataOk && s.guardClear e then s.tierOf e
    else none

/-- Round-robin order: from the port after the last granted one back to it (R57). -/
def State.roundRobin (s : State) : List PortId := [s.pointer + 1, s.pointer + 2, s.pointer + 3, s.pointer]

/-- The port granted within a tier: the first in round-robin order whose head is eligible in it (R57). -/
def State.winnerIn (s : State) (t : Tier) : Option PortId := s.roundRobin.find? (fun p => s.eligibleTier p == some t)

/-- The tier and the port that an arbitration grants, if any head is eligible (R56, R57). -/
def State.winner (s : State) : Option (Tier × PortId) :=
  allTiers.findSome? (fun t => (s.winnerIn t).map (fun p => (t, p)))

/-- The lowest-numbered FREE slot (R67). -/
def State.lowestFree (s : State) : Option SlotId := allSlots.find? (fun i => !(s.slot i).busy)

/-! ### Retirement (R44) -/

/-- The status with which the port's head retires, when the condition of its case in Table 3-1 holds. -/
def State.retireStatus (s : State) (p : PortId) : Option DoneStatus :=
  match (s.port p).queue with
  | [] => none
  | e :: _ =>
    match e.disposition with
    | .refused => if e.data = .complete then some .refused else none
    | .dataerr => if e.data = .complete then some .dataerr else none
    | .fence =>
      if s.link.state = .failed then (if e.data = .complete then some .aborted else none)
      else if s.portIdle p then some .ok else none
    | .issue => if s.link.state = .failed ∧ e.data = .complete then some .aborted else none

/-! ### Drain condition (R146) -/

/-- All queues and data order lists are empty and every slot is FREE. -/
def State.drained (s : State) : Bool :=
  allPorts.all (fun p => (s.port p).queue.isEmpty && (s.port p).list.isEmpty) && s.allFree

/-! ### Acceptance -/

/-- The mode lets ports take requests (R110). -/
def Mode.admits : Mode → Bool
  | .pass => true
  | .regulate => true
  | .draining => false
  | .quiesced => false

/-- The port takes this REQUEST if it is offered now (R110; while RST_N is low it takes none, log 9). -/
def State.takesRequest (s : State) (p : PortId) (m : RequestMsg) : Bool :=
  !s.rstLow && s.mode.admits && !(s.port p).resetLow && decide ((s.port p).queue.length < Config.queueCapacity)
    && (m.kind != .write || decide ((s.port p).list.length < Config.listCapacity))

/-- The oldest REQUEST offered at the port can be taken (R110). -/
def State.requestDue (s : State) (p : PortId) : Bool :=
  match (s.port p).reqOffers with
  | [] => false
  | m :: _ => s.takesRequest p m

/-- The oldest WRITE UNIT offered at the port can be taken (R115, R116, R119). -/
def State.unitDue (s : State) (p : PortId) : Bool :=
  match (s.port p).dataOffers, (s.port p).list with
  | [], _ => false
  | _ :: _, [] => !s.rstLow && !(s.port p).resetLow
  | u :: _, r :: _ =>
    !s.rstLow && !(s.port p).resetLow && (r.mode == .sink || u.bad || s.bufferRoom p)

/-! ### Output pins -/

/-- Some cause is both pending and enabled (R138). -/
def AlertSet.meets (a b : AlertSet) : Bool :=
  (a.check && b.check) || (a.quiesced && b.quiesced) || (a.linkOnline && b.linkOnline) || (a.linkFailed && b.linkFailed)

/-- ALERT_N is driven low (R138). -/
def State.alertLow (s : State) : Bool := !s.rstLow && s.chk.pending.meets s.chk.mask

/-- Un_REQ signals the initiator to hold: the reset line is low (R126), or an offered REQUEST is not taken (R110). -/
def State.reqHeld (s : State) (p : PortId) : Bool := (s.port p).resetLow || !(s.port p).reqOffers.isEmpty

/-- Un_WDAT signals the initiator to hold: the reset line is low (R126), or an offered WRITE UNIT is not taken (R119). -/
def State.dataHeld (s : State) (p : PortId) : Bool := (s.port p).resetLow || !(s.port p).dataOffers.isEmpty

/-- SDO is released to high impedance: CS_N is high (R152). -/
def State.sdoReleased (s : State) : Bool := !s.mgmt.csLow

end Sys2Proof.Machine
end

