-- ==== Sys2Proof/Machine/Classify.lean ====
section
/-! DEFINITION. The classifier: matching a region, the order of the checks, and the snapshot of Table 1-3 (R3, R8 to R17). -/

namespace Sys2Proof.Machine

/-- Length of a region in bytes (R2). -/
def RegionEntry.bytes (e : RegionEntry) : Nat := 2 ^ (12 + e.sizeCode.val)

/-- The entry matches the address (R3): the address with its low 12 + c bits cleared is the base. -/
def RegionEntry.matchesAddr (e : RegionEntry) (a : Addr) : Bool :=
  e.valid && decide (a.toNat / e.bytes * e.bytes = e.base.toNat)

/-- The matched region: the matching entry of lowest index (R3). -/
def matchedRegion (t : Tab 16 RegionEntry) (a : Addr) : Option RegionId :=
  allRegions.find? (fun i => (t.row i).matchesAddr a)

/-- One past the last byte of the request (R9). -/
def requestEnd (m : RequestMsg) : Nat := m.addr.toNat + Config.unitBytes * m.len.val

/-- The MALFORMED check fails (R9). -/
def malformed (m : RequestMsg) : Bool :=
  decide (m.addr.toNat % Config.unitBytes ≠ 0) || decide (m.len.val = 0) || decide (Config.maxLength < m.len.val)
    || decide (Config.addressSpace < requestEnd m) || m.kind == .unnamed

/-- The BOUNDARY check fails: the last byte lies outside the matched region (R12). -/
def outsideRegion (e : RegionEntry) (m : RequestMsg) : Bool := decide (e.base.toNat + e.bytes < requestEnd m)

/-- The PROTECTION check fails, for the port or for the level (R13). -/
def forbidden (e : RegionEntry) (p : PortId) (m : RequestMsg) : Bool :=
  match dirOf m.kind with
  | .read => !e.readPorts.getLsbD p.val || decide (e.readLevel < m.level)
  | .write => !e.writePorts.getLsbD p.val || decide (e.writeLevel < m.level)

/-- The account a region names for a port (R14). -/
def chosenAccount (e : RegionEntry) (cfg : PortConfig) (p : PortId) : AccountId :=
  match e.selection.row p with
  | .account a => a
  | .portDefault => cfg.defaultAccount

/-- What classification gives a request (Table 1-3); `refusal` is the refusal kind, absent for a request not refused. -/
structure Snapshot where
  disposition : Disposition
  refusal : Option CheckKind
  region : Option RegionId
  account : Option AccountId
  guard : Bool
  report : ReportMode
  deriving DecidableEq, Repr

/-- A refusal without a region (R9, R11). -/
def refusedBare (k : CheckKind) : Snapshot :=
  { disposition := .refused, refusal := some k, region := none, account := none, guard := false, report := .all }

/-- The snapshot of a FENCE (R17). -/
def fenceSnapshot : Snapshot :=
  { disposition := .fence, refusal := none, region := none, account := none, guard := false, report := .all }

/-- The snapshot of a request accepted in PASS (R16). -/
def passSnapshot : Snapshot :=
  { disposition := .issue, refusal := none, region := none, account := none, guard := true, report := .all }

/-- The snapshot of a request that matched region `i` (R12 to R14). -/
def regionSnapshot (e : RegionEntry) (i : RegionId) (cfg : PortConfig) (p : PortId) (m : RequestMsg) : Snapshot :=
  let k : Option CheckKind :=
    if outsideRegion e m then some .boundary else if forbidden e p m then some .protection else none
  { disposition := if k.isSome then .refused else .issue, refusal := k, region := some i,
    account := some (chosenAccount e cfg p), guard := e.guard, report := e.report }

/-- The snapshot of a request that matched no region (R11). -/
def noRegionSnapshot (cfg : PortConfig) : Snapshot :=
  match cfg.noRegion with
  | .refuse => refusedBare .noRegion
  | .default =>
    { disposition := .issue, refusal := none, region := none, account := some cfg.defaultAccount,
      guard := cfg.defaultGuard, report := cfg.defaultReport }

/-- The classification of a request at its acceptance (R8; a FENCE is not classified, R17). -/
def classify (mode : AdmissionMode) (t : Tab 16 RegionEntry) (cfg : PortConfig) (p : PortId) (m : RequestMsg) : Snapshot :=
  if m.kind = .fence then fenceSnapshot
  else if malformed m then refusedBare .malformed
  else
    match mode with
    | .pass => passSnapshot
    | .regulate =>
      match matchedRegion t m.addr with
      | none => noRegionSnapshot cfg
      | some i => regionSnapshot (t.row i) i cfg p m

end Sys2Proof.Machine
end

