-- ==== Sys2Proof/Machine/Intake.lean ====
section
/-! DEFINITION. What a port does with the REQUEST and the WRITE UNIT at the front of its offers when it takes them
(R7, R10, R15, R17, R18, R110 to R117). -/

namespace Sys2Proof.Machine

/-- The admission mode a mode gives; no request is taken in DRAINING or QUIESCED (R8). -/
def Mode.admission : Mode → AdmissionMode
  | .regulate => .regulate
  | .pass => .pass
  | .draining => .pass
  | .quiesced => .pass

/-- The request's units are expected: a WRITE whose length field is 1 to 31 (R10, R18). -/
def expectsData (m : RequestMsg) : Bool := m.kind == .write && decide (m.len.val ≠ 0)

/-- The queue entry of an accepted request (R17, R18). -/
def newEntry (mode : AdmissionMode) (m : RequestMsg) (sn : Snapshot) : Entry :=
  { tag := m.tag, kind := m.kind,
    addr := if m.kind = .fence then none else some m.addr,
    len := if m.kind = .fence then none else some m.len,
    disposition := sn.disposition, admission := mode, region := sn.region, account := sn.account, guard := sn.guard,
    report := sn.report, data := if expectsData m then .waitingData else .complete, held := [], age := 0,
    urgent := false, markDue := false }

/-- The data order list record of a write that expects data: STORE for an accepted one, SINK otherwise (R114). -/
def newRecord (m : RequestMsg) (mode : RecordMode) (entry : Option Tag) : List ListRecord :=
  if expectsData m then [{ mode := mode, expected := m.len.val, taken := 0, entry := entry }] else []

/-- The request is placed at the tail of the queue with its tag, its record and its count (R110). -/
def Port.enqueue (po : Port) (mode : AdmissionMode) (m : RequestMsg) (sn : Snapshot) : Port :=
  { po.addTag m.tag with
    queue := po.queue ++ [newEntry mode m sn]
    list := po.list ++ newRecord m (if sn.disposition = .issue then .store else .sink) (some m.tag)
    counters := { po.counters with accepted := po.counters.accepted + 1 } }

/-- The check of a refusal at classification is raised (R15). -/
def State.raiseRefusal (s : State) (p : PortId) (m : RequestMsg) (sn : Snapshot) : State :=
  match sn.refusal with
  | none => s
  | some k =>
    s.raise sn.report
      { kind := k, port := some p, tag := some m.tag, addr := some m.addr, region := sn.region, account := sn.account,
        stamp := s.ticks.stamp }

/-- The snapshot the request gets from the mode, table and port configuration as they stand (R7). -/
def State.snapshotOf (s : State) (p : PortId) (m : RequestMsg) : Snapshot :=
  classify s.mode.admission s.regions (s.port p).config p m

/-- The port accepts the request: it is classified and queued (R7, R110). -/
def State.accept (s : State) (p : PortId) (m : RequestMsg) : State :=
  (s.raiseRefusal p m (s.snapshotOf p m)).modPort p (fun po => po.enqueue s.mode.admission m (s.snapshotOf p m))

/-- The request is a duplicate: DUP_TAG is raised, and a write places a discard record (R112). -/
def State.rejectDuplicate (s : State) (p : PortId) (m : RequestMsg) : State :=
  (s.raise .all
    { kind := .dupTag, port := some p, tag := some m.tag, addr := if m.kind = .fence then none else some m.addr,
      region := none, account := none, stamp := s.ticks.stamp }).modPort p
    (fun po => { po with list := po.list ++ newRecord m .sink none })

/-- The port takes the request: duplicate or accepted by its tag (R110 to R112). -/
def State.takeRequest (s : State) (p : PortId) (m : RequestMsg) : State :=
  if (s.port p).tags.row m.tag then s.rejectDuplicate p m else s.accept p m

/-- The port takes the oldest offered REQUEST; the offer leaves Un_REQ. -/
def State.takeOfferedRequest (s : State) (p : PortId) : State :=
  match (s.port p).reqOffers with
  | [] => s
  | m :: rest => (s.modPort p (fun po => { po with reqOffers := rest })).takeRequest p m

/-- The unit is stray: it is discarded and STRAY_DATA is raised (R116). -/
def State.strayUnit (s : State) (p : PortId) : State :=
  (s.raise .all
    { kind := .strayData, port := some p, tag := none, addr := none, region := none, account := none,
      stamp := s.ticks.stamp }).modPort p Port.popData

/-- The unit is sunk by the oldest record (R115). -/
def State.sinkUnit (s : State) (p : PortId) : State := s.modPort p (fun po => po.popData.advanceList .sink)

/-- The DATA_PARITY check of the write whose record is the oldest (R117). -/
def State.raiseParity (s : State) (p : PortId) (e : Entry) : State :=
  s.raise e.report
    { kind := .dataParity, port := some p, tag := some e.tag, addr := e.addr, region := e.region, account := e.account,
      stamp := s.ticks.stamp }

/-- A unit with bad parity for a STORE record: its write becomes DATAERR, its units are released and its later units are
sunk (R117). -/
def State.parityError (s : State) (p : PortId) (r : ListRecord) : State :=
  match (s.port p).queue.find? (fun e => decide (r.entry = some e.tag)) with
  | none => s.sinkUnit p
  | some e =>
    let s := s.raiseParity p e
    let s := s.modPort p (fun po =>
      (po.popData.modEntry r.entry (fun e => { e with disposition := .dataerr, held := [] })).advanceList .sink)
    s.release p e.held.length

/-- The port takes the oldest offered WRITE UNIT, as R115 to R117 give; it is called only when the unit can be taken. -/
def State.takeOfferedUnit (s : State) (p : PortId) : State :=
  match (s.port p).dataOffers, (s.port p).list with
  | [], _ => s
  | _ :: _, [] => s.strayUnit p
  | u :: _, r :: _ =>
    match r.mode with
    | .sink => s.sinkUnit p
    | .store => if u.bad then s.parityError p r else s.storeUnit p r u

end Sys2Proof.Machine
end

