-- ==== Sys2Proof/Machine/Own.lean ====
section
/-! DEFINITION. The events the part takes by itself: retirement at the head (R44 to R48), the urgent mark (R35), the timeouts
and the orphan-limit expiry a tick found due (R80 to R82), the completion of a drain (R146); and `finish`, which takes the due
ones at the end of the event that makes them due (R44, R99, R110, R120, R146; log 1, log 2). -/

namespace Sys2Proof.Machine

/-! ### The events -/

/-- The port's head retires with `st`: its DONE is sent, its tag and entry leave, the DONE is counted, and its held units are
released, as parts of one event (R44). -/
def State.retire (s : State) (p : PortId) (st : DoneStatus) : State :=
  match (s.port p).queue with
  | [] => s
  | e :: rest =>
    (s.modPort p (fun po => ({ po with queue := rest }.done e.tag st).countDone st)).release p e.held.length

/-- The port's head retires if it is due with the status `st`. -/
def State.retireIf (s : State) (p : PortId) (st : DoneStatus) : State :=
  if s.retireStatus p = some st then s.retire p st else s

/-- The port's head retires with whatever status it is due. -/
def State.retireDue (s : State) (p : PortId) : State :=
  match s.retireStatus p with
  | none => s
  | some st => s.retire p st

/-- The tick just taken found the port's head due for the urgent mark (R35). -/
def State.markIsDue (s : State) (p : PortId) : Bool :=
  match (s.port p).queue with
  | [] => false
  | e :: _ => e.markDue

/-- The port's head receives the urgent mark (R35). -/
def State.markHead (s : State) (p : PortId) : State :=
  s.modPort p (fun po =>
    match po.queue with
    | [] => po
    | e :: rest => { po with queue := { e with urgent := true, markDue := false } :: rest })

/-- The slot becomes ORPHANED at the tick just taken (R80, R81). -/
def State.orphanSlot (s : State) (i : SlotId) : State :=
  s.setSlot i { s.slot i with state := .orphaned, orphanTick := some s.ticks.stamp, timeOrphaned := 0, due := false }

/-- The slot owes an answer and its response timeout is due (R80). -/
def State.timeoutIsDue (s : State) (i : SlotId) : Bool := (s.slot i).due && (s.slot i).owes

/-- The slot is detached, ISSUED or RETURNING, and its response timeout is due (R81). -/
def State.detachedIsDue (s : State) (i : SlotId) : Bool :=
  (s.slot i).due && (s.slot i).detached && ((s.slot i).state == .issued || (s.slot i).state == .returning)

/-- The slot is ORPHANED and its orphan limit is due (R82). -/
def State.expiryIsDue (s : State) (i : SlotId) : Bool := (s.slot i).due && (s.slot i).state == .orphaned

/-- A slot that owes an answer times out (R80). -/
def State.timeoutSlot (s : State) (i : SlotId) : State :=
  ((s.answerSlot (s.slot i) .timeout).raise (s.slot i).report (s.slotCapture .timeout (s.slot i))).orphanSlot i

/-- The part enters QUIESCED and the alert cause QUIESCED is raised (R146). -/
def State.quiesce (s : State) : State := { s with mode := .quiesced }.alert .quiesced

/-- The mode is DRAINING and the drain condition holds (R146). -/
def State.drainIsDue (s : State) : Bool := s.mode == .draining && s.drained

/-- The mode controller examines the drain condition (R146). -/
def State.examineDrain (s : State) : State := if s.drainIsDue then s.quiesce else s

/-! ### Taking the due events -/

/-- An event of the part's own that is due. -/
inductive Due where
  | retire (p : PortId)
  | unit (p : PortId)
  | request (p : PortId)
  | mark (p : PortId)
  | timeout (i : SlotId)
  | detached (i : SlotId)
  | expiry (i : SlotId)
  | drain
  deriving DecidableEq, Repr

/-- What is due at a slot. -/
def State.slotDue (s : State) (i : SlotId) : Option Due :=
  if s.timeoutIsDue i then some (.timeout i)
  else if s.detachedIsDue i then some (.detached i)
  else if s.expiryIsDue i then some (.expiry i)
  else none

/-- The first due event in the model's order (log 2); the drain condition is examined after everything else (R146). -/
def State.nextDue (s : State) : Option Due :=
  match allPorts.find? (fun p => (s.retireStatus p).isSome) with
  | some p => some (.retire p)
  | none =>
  match allPorts.find? s.unitDue with
  | some p => some (.unit p)
  | none =>
  match allPorts.find? s.requestDue with
  | some p => some (.request p)
  | none =>
  match allPorts.find? s.markIsDue with
  | some p => some (.mark p)
  | none =>
  match allSlots.findSome? s.slotDue with
  | some d => some d
  | none => if s.drainIsDue then some .drain else none

/-- A due event is taken. -/
def State.takeDue (s : State) : Due → State
  | .retire p => s.retireDue p
  | .unit p => s.takeOfferedUnit p
  | .request p => s.takeOfferedRequest p
  | .mark p => s.markHead p
  | .timeout i => s.timeoutSlot i
  | .detached i => s.orphanSlot i
  | .expiry _ => s.linkFail
  | .drain => s.quiesce

/-- Due events are taken, one after the other, at most `fuel` of them. -/
def settleWith : Nat → State → State
  | 0, s => s
  | fuel + 1, s =>
    match s.nextDue with
    | none => s
    | some d => settleWith fuel (s.takeDue d)

/-- A bound on the due events that can follow one another: every one of them takes away an entry, an offer, a mark or a slot's
due flag, or ends the drain; a REQUEST taken turns an offer into an entry. -/
def State.dueBound (s : State) : Nat :=
  (allPorts.map (fun p =>
    (s.port p).queue.length + (s.port p).dataOffers.length + 2 * (s.port p).reqOffers.length
      + ((s.port p).queue.filter (·.markDue)).length)).sum
  + (s.slots.toList.filter (·.due)).length + (if s.mode = .draining then 1 else 0)

/-- Every due event is taken. -/
def State.settle (s : State) : State := settleWith s.dueBound s

/-- The command is one of the part's own events (log 1). -/
def ownEvent : Instr → Bool
  | .urgentMark _ => true
  | .responseTimeout _ => true
  | .detachedTimeout _ => true
  | .orphanLimitExpiry _ => true
  | .retireRefused _ => true
  | .retireDataerr _ => true
  | .retireFence _ => true
  | .failFast _ => true
  | .drainComplete => true
  | _ => false

/-- The next command in the queue is one of the part's own events. -/
def State.ownEventNext (s : State) : Bool :=
  match s.pending with
  | [] => false
  | c :: _ => ownEvent c

/-- The end of an event: the part takes what is due, unless the queue names one of its own events as the next (log 1). -/
def State.finish (s : State) : State := if s.ownEventNext then s else s.settle

end Sys2Proof.Machine
end

