-- ==== Sys2Proof/Machine/Resets.lean ====
section
/-! DEFINITION. FULL_RESET, RST_N_RELEASE, PORT_RESET, PORT_RESET_RELEASE (R64, R83, R92, R125, R126, R142, R155). -/

namespace Sys2Proof.Machine

/-- What the state of one step answers. -/
abbrev Result := Host.Outcome State Fault Refusal

/-- Port `p` after full reset: its reset values, its input pin and what has been sent kept; its offers kept or withdrawn
(log 8, log 9). -/
def Port.fullReset (po : Port) (p : PortId) (withdrawn : Bool) : Port :=
  { Port.reset p with
    resetLow := po.resetLow
    reqOffers := if withdrawn then [] else po.reqOffers
    dataOffers := if withdrawn then [] else po.dataOffers
    rsp := po.rsp }

/-- Full reset: every table, record, queue, slot, counter and the mode at its reset value; the transaction in progress ends
(R64, R142, R152, R155). -/
def State.fullReset (s : State) (withdrawn : Bool) : State :=
  { State.held with
    ports := ⟨⟨allPorts.map (fun p => (s.port p).fullReset p withdrawn)⟩, rfl⟩
    mgmt := { s.mgmt with transaction := .idle }
    mlDn := s.mlDn
    pending := s.pending }

/-- FULL_RESET: power comes on or RST_N goes low. -/
def execFullReset (withdrawn : Bool) (s : State) : Result := .next (s.fullReset withdrawn)

/-- RST_N is released: one RESTART with epoch 0 is sent, the link is in WAIT_CREDIT and the mode is PASS (R92, R142). -/
def State.releaseRst (s : State) : State :=
  { s with rstLow := false, link := Link.reset, mode := .pass }.sendDn (.restart 0)

/-- RST_N_RELEASE. -/
def execRstNRelease (s : State) : Result := .next (if s.rstLow then s.releaseRst.finish else s)

/-- The port controller's side of a port reset (R125). -/
def Port.portReset (po : Port) (withdrawn : Bool) : Port :=
  { po with
    queue := [], list := [], tags := Tab.const 32 false, owedReads := 0, owedWrites := 0, resetLow := true
    reqOffers := if withdrawn then [] else po.reqOffers
    dataOffers := if withdrawn then [] else po.dataOffers }

/-- A slot after the reset of port `p` (R83). -/
def Slot.portReset (sl : Slot) (p : PortId) : Slot :=
  if sl.busy && sl.port == p then { sl with detached := true } else sl

/-- The port reset, its parts as one event (R125): the port's work is dropped, its slots are detached and all its buffer units
are released. -/
def State.portReset (s : State) (p : PortId) (withdrawn : Bool) : State :=
  let n := (s.bufCounts p).reserve + (s.bufCounts p).shared
  let s := s.modPort p (fun po => po.portReset withdrawn)
  let s := { s with slots := s.slots.mapRows (fun sl => sl.portReset p) }
  s.release p n

/-- PORT_RESET: the line goes low; holding it low does not take the reset again (R126). -/
def execPortReset (p : PortId) (withdrawn : Bool) (s : State) : Result :=
  .next (if (s.port p).resetLow then s else (s.portReset p withdrawn).finish)

/-- PORT_RESET_RELEASE: the port takes messages again (R126). -/
def execPortResetRelease (p : PortId) (s : State) : Result :=
  .next (if (s.port p).resetLow then (s.modPort p (fun po => { po with resetLow := false })).finish else s)

end Sys2Proof.Machine
end

