-- ==== Sys2Proof/Machine/Ports.lean ====
section
/-! DEFINITION. REQUEST and WRITE_UNIT: an initiator offers a message, and the port takes it if it can; a message it does not
take stays with the initiator and holds the later ones of its group (R107, R110, R115, R119). -/

namespace Sys2Proof.Machine

/-- A REQUEST is offered behind those already waiting on Un_REQ (R107). -/
def State.offerRequest (s : State) (p : PortId) (m : RequestMsg) : State :=
  s.modPort p (fun po => { po with reqOffers := po.reqOffers ++ [m] })

/-- A WRITE UNIT is offered behind those already waiting on Un_WDAT (R107). -/
def State.offerUnit (s : State) (p : PortId) (u : WriteUnitMsg) : State :=
  s.modPort p (fun po => { po with dataOffers := po.dataOffers ++ [u] })

/-- REQUEST (R110). -/
def execRequest (p : PortId) (m : RequestMsg) (s : State) : Result :=
  let s := s.offerRequest p m
  .next (if s.requestDue p then s.takeOfferedRequest p else s).finish

/-- WRITE_UNIT (R115). -/
def execWriteUnit (p : PortId) (u : WriteUnitMsg) (s : State) : Result :=
  let s := s.offerUnit p u
  .next (if s.unitDue p then s.takeOfferedUnit p else s).finish

end Sys2Proof.Machine
end

