-- ==== Sys2Proof/Machine/Ticks.lean ====
section
/-! DEFINITION. TICK, URGENT_MARK, RESPONSE_TIMEOUT, DETACHED_TIMEOUT, ORPHAN_LIMIT_EXPIRY (R28 to R31, R34, R35, R79 to R82).
TICK drains, ages and compares, and marks what it found due; the other rows act on what is due (log 7). -/

namespace Sys2Proof.Machine

/-- An account after a tick: drained, and its over tick counted when the drained balance is over (R31). -/
def Account.drainTick (a : Account) : Account :=
  let a := { a with balance := a.balance - a.params.drain }
  if a.over then { a with counters := { a.counters with overTicks := a.counters.overTicks + 1 } } else a

/-- An entry one tick older (R34). -/
def Entry.older (e : Entry) : Entry := { e with age := if e.age < Config.maxEntryAge then e.age + 1 else e.age }

/-- The comparison of R35 for a head, with its increased age: an ISSUE head of a REALTIME account without the mark whose age
is at least the window. -/
def State.reachesWindow (s : State) (e : Entry) : Bool :=
  e.disposition == .issue && !e.urgent &&
    match e.account with
    | none => false
    | some a => (s.account a).params.cls == .realtime && decide ((s.account a).params.window ≤ e.age)

/-- The port's queue after a tick: every entry older, and the head compared (R34, R35). -/
def State.tickQueue (s : State) (q : List Entry) : List Entry :=
  match q.map Entry.older with
  | [] => []
  | e :: rest => { e with markDue := s.reachesWindow e } :: rest.map (fun e => { e with markDue := false })

/-- A slot one tick older, and an ORPHANED one a tick longer orphaned (R79). -/
def Slot.older (sl : Slot) : Slot :=
  { sl with age := sl.age + 1, timeOrphaned := if sl.state = .orphaned then sl.timeOrphaned + 1 else sl.timeOrphaned }

/-- The comparison of R80, R81 and R82, with the increased age and time orphaned. -/
def Slot.reachesLimit (sl : Slot) (t : SlotTiming) : Bool :=
  if sl.state = .orphaned then decide (t.orphanLimit ≤ sl.timeOrphaned)
  else decide (t.responseTimeout ≠ 0) && decide (t.responseTimeout ≤ sl.age)

/-- A slot after a tick: a non-FREE one is older and compared (R30, R79 to R82). The increase comes before the comparison, so
that with a response timeout of 1 a slot times out at its first tick, where R85 says none does (log 18). -/
def Slot.tick (sl : Slot) (t : SlotTiming) : Slot :=
  if sl.busy then { sl.older with due := sl.older.reachesLimit t } else sl

/-- A tick is produced (R28 to R31, R34, R35, R79 to R82). -/
def State.tickWork (s : State) : State :=
  { s with
    ticks := { s.ticks with count := 0, stamp := s.ticks.stamp + 1 }
    accounts := s.accounts.mapRows Account.drainTick
    ports := s.ports.mapRows (fun po => { po with queue := s.tickQueue po.queue })
    slots := s.slots.mapRows (fun sl => sl.tick s.timing) }

/-- TICK: REFCLK runs for `cycles` cycles or until the count reaches the period; while RST_N is low there is no tick (R28). -/
def execTick (cycles : Nat) (s : State) : Result :=
  .next
    (if s.rstLow then s
    else if s.ticks.count + cycles < s.ticks.period then
      { s with ticks := { s.ticks with count := s.ticks.count + cycles } }
    else s.tickWork.finish)

/-- URGENT_MARK: the port's head receives the mark the tick found due (R35). -/
def execUrgentMark (p : PortId) (s : State) : Result := .next (if s.markIsDue p then s.markHead p else s).finish

/-- RESPONSE_TIMEOUT of a slot that owes an answer (R80). -/
def execResponseTimeout (i : SlotId) (s : State) : Result :=
  .next (if s.timeoutIsDue i then s.timeoutSlot i else s).finish

/-- DETACHED_TIMEOUT: the slot becomes ORPHANED silently (R81). -/
def execDetachedTimeout (i : SlotId) (s : State) : Result :=
  .next (if s.detachedIsDue i then s.orphanSlot i else s).finish

/-- ORPHAN_LIMIT_EXPIRY: the link fails, and the heads retire as parts of the same event (R82, R98, R99). -/
def execOrphanLimitExpiry (i : SlotId) (s : State) : Result :=
  .next (if s.expiryIsDue i then s.linkFail.settle else s.finish)

end Sys2Proof.Machine
end

