-- ==== Sys2Proof/Machine/Arbiter.lean ====
section
/-! DEFINITION. GRANT: one arbitration of the issue arbiter and its grant (R25, R27, R56 to R59, R67, R88). -/

namespace Sys2Proof.Machine

/-- The charge for one grant of `len` units (R25). -/
def AccountParams.charge (a : AccountParams) (len : Nat) : Nat := a.requestCharge + len * a.unitCharge

/-- The account's counters after a grant made in tier `t` (R27). -/
def AccountCounters.count (c : AccountCounters) (t : Tier) (len : Nat) : AccountCounters :=
  { c with
    grants := c.grants + 1
    units := c.units + BitVec.ofNat 32 len
    urgentGrants := if t = .urgent then c.urgentGrants + 1 else c.urgentGrants
    spareGrants := if t = .spare then c.spareGrants + 1 else c.spareGrants }

/-- The account charged and counted for a grant (R25, R27). -/
def Account.chargeGrant (a : Account) (t : Tier) (len : Nat) : Account :=
  { a with balance := min a.params.clip (a.balance + a.params.charge len), counters := a.counters.count t len }

/-- The grant's charge, when the snapshot names an account (R58). -/
def State.chargeFor (s : State) (e : Entry) (t : Tier) : State :=
  match e.account with
  | none => s
  | some a => s.modAccount a (fun r => r.chargeGrant t e.units)

/-- The slot taken for an entry (R59, R67). -/
def State.slotFor (s : State) (p : PortId) (e : Entry) : Slot :=
  { Slot.reset with
    state := .issued, port := p, tag := e.tag, dir := dirOf e.kind, addr := e.addr.getD 0, len := e.units
    account := e.account, region := e.region, guard := e.guard, report := e.report
    issueTick := s.ticks.stamp, epoch := s.link.epoch }

/-- The ISSUE of an entry in slot `i` (R59, R88). -/
def State.issueFor (s : State) (i : SlotId) (e : Entry) : DnMsg :=
  .issue s.link.epoch i (dirOf e.kind) (e.addr.getD 0) (issueLengthField e.units)
    (match dirOf e.kind with | .read => none | .write => some e.held)

/-- The grant of the head of port `p` in tier `t` into slot `i`, its parts as one event (R58, R59). -/
def State.grantHead (s : State) (t : Tier) (p : PortId) (e : Entry) (rest : List Entry) (i : SlotId) : State :=
  let s := (s.setSlot i (s.slotFor p e)).sendDn (s.issueFor i e)
  let s := s.modPort p (fun po => { po with queue := rest }.owe (dirOf e.kind))
  let s := { s.chargeFor e t with pointer := p }
  s.release p e.held.length

/-- One arbitration (R56, R57); with no eligible head none is taken. -/
def State.arbitrate (s : State) : State :=
  match s.winner, s.lowestFree with
  | some (t, p), some i =>
    match (s.port p).queue with
    | e :: rest => s.grantHead t p e rest i
    | [] => s
  | _, _ => s

/-- GRANT. -/
def execGrant (s : State) : Result := .next s.arbitrate.finish

end Sys2Proof.Machine
end

