-- ==== Sys2Proof/Machine/Heads.lean ====
section
/-! DEFINITION. RETIRE_REFUSED, RETIRE_DATAERR, RETIRE_FENCE, FAIL_FAST and DRAIN_COMPLETE: events the part takes by itself
when they are due (R44 to R48, R146; log 1, log 3). -/

namespace Sys2Proof.Machine

/-- RETIRE_REFUSED (R45). -/
def execRetireRefused (p : PortId) (s : State) : Result := .next (s.retireIf p .refused).finish

/-- RETIRE_DATAERR (R46). -/
def execRetireDataerr (p : PortId) (s : State) : Result := .next (s.retireIf p .dataerr).finish

/-- RETIRE_FENCE (R47). -/
def execRetireFence (p : PortId) (s : State) : Result := .next (s.retireIf p .ok).finish

/-- FAIL_FAST (R48). -/
def execFailFast (p : PortId) (s : State) : Result := .next (s.retireIf p .aborted).finish

/-- DRAIN_COMPLETE (R146). -/
def execDrainComplete (s : State) : Result := .next s.examineDrain.finish

end Sys2Proof.Machine
end

