-- ==== Sys2Proof/Machine/MemLink.lean ====
section
/-! DEFINITION. ADVERTISE, READ_UNIT, WRITE_DONE and UNKNOWN_LINK_MESSAGE: the screening of ML_UP and the replies taken by the
slot controller (R69 to R75, R89, R90, R92, R94, R95). -/

namespace Sys2Proof.Machine

/-- A stale message is counted (R90). -/
def State.countStale (s : State) : State :=
  { s with chk := { s.chk with globals := { s.chk.globals with stale := s.chk.globals.stale + 1 } } }

/-- The last reply to an ORPHANED slot is counted (R74, R141). -/
def State.countLate (s : State) : State :=
  { s with chk := { s.chk with globals := { s.chk.globals with late := s.chk.globals.late + 1 } } }

/-- The reply misfits its slot in kind or the slot is FREE (R69). -/
def Slot.misfits (sl : Slot) (d : Dir) : Bool := !sl.busy || sl.dir != d

/-- The READ UNIT does not fit its slot (R69). -/
def Slot.misfitsUnit (sl : Slot) (idx : UnitIndex) : Bool :=
  sl.misfits .read || decide (sl.len ≤ idx.val) || sl.received.row idx

/-- The slot with the unit index added to its units received (R70). -/
def Slot.receive (sl : Slot) (idx : UnitIndex) : Slot := { sl with received := sl.received.setRow idx true }

/-- The units received are complete (R72). -/
def Slot.allReceived (sl : Slot) : Bool := decide (sl.received.toList.count true = sl.len)

/-- The last reply to an ORPHANED slot frees it, counts as late and raises LATE unless the slot is detached (R74). -/
def State.lateReply (s : State) (i : SlotId) : State :=
  let sl := s.slot i
  let s := (s.freeSlot i).countLate
  if sl.detached then s else s.raise .all (s.slotCapture .late sl)

/-- A unit is forwarded to the port, with the check of a corrected one (R70, R71). -/
def State.forwardUnit (s : State) (sl : Slot) (idx : UnitIndex) (data : UnitData) (g : Integrity) : State :=
  let s := s.modPort sl.port (fun po => po.send (.readUnit sl.tag idx data (g == .poisoned)))
  if g = .corrected then s.raise sl.report (s.slotCapture .memCorrected sl) else s

/-- An answer from memory: DONE OK, or DONE MEMERR with its check; the slot is freed (R72, R73). -/
def State.completeSlot (s : State) (i : SlotId) (sl : Slot) (bad : Bool) (k : CheckKind) : State :=
  let s := s.answerSlot sl (if bad then .memerr else .ok)
  let s := if bad then s.raise sl.report (s.slotCapture k sl) else s
  s.freeSlot i

/-- A READ UNIT that fits an ISSUED or RETURNING slot that is not detached (R70 to R72). -/
def State.owedUnit (s : State) (i : SlotId) (idx : UnitIndex) (data : UnitData) (g : Integrity) : State :=
  let sl := { (s.slot i).receive idx with poisoned := (s.slot i).poisoned || g == .poisoned }
  let s := s.forwardUnit sl idx data g
  if sl.allReceived then s.completeSlot i sl sl.poisoned .memPoisoned else s.setSlot i { sl with state := .returning }

/-- The slot controller takes a READ UNIT (R69 to R75). -/
def State.takeReadUnit (s : State) (i : SlotId) (idx : UnitIndex) (data : UnitData) (g : Integrity) : State :=
  let sl := s.slot i
  if sl.misfitsUnit idx then s.linkProtocol
  else
    match sl.state with
    | .orphaned => if (sl.receive idx).allReceived then s.lateReply i else s.setSlot i (sl.receive idx)
    | .free | .issued | .returning =>
      if sl.detached then
        if (sl.receive idx).allReceived then s.freeSlot i else s.setSlot i { sl.receive idx with state := .returning }
      else s.owedUnit i idx data g

/-- The slot controller takes a WRITE DONE; `bad` is outcome FAILED (R69, R73 to R75). -/
def State.takeWriteDone (s : State) (i : SlotId) (bad : Bool) : State :=
  let sl := s.slot i
  if sl.misfits .write then s.linkProtocol
  else
    match sl.state with
    | .orphaned => s.lateReply i
    | .free | .issued | .returning =>
      if sl.detached then s.freeSlot i else s.completeSlot i sl bad .memWriteFailed

/-- The link enters ONLINE (R94). -/
def State.goOnline (s : State) (credits : Nat) : State :=
  { s with link := { s.link with state := .online, advertised := credits } }.alert .linkOnline

/-- ADVERTISE (R90, R94, R95); nothing on ML_UP is taken while RST_N is low (R92). -/
def execAdvertise (epoch : Epoch) (credits : Fin 64) (s : State) : Result :=
  .next
    (if s.rstLow then s
    else if epoch ≠ s.link.epoch then s.countStale
    else if s.link.state = .waitCredit ∧ 1 ≤ credits.val ∧ credits.val ≤ Config.maxCredits then s.goOnline credits.val
    else s.linkProtocol)

/-- READ_UNIT (R70, R89, R90, R92). -/
def execReadUnit (epoch : Epoch) (dtag : SlotId) (idx : UnitIndex) (data : UnitData) (integrity : Integrity) (s : State) :
    Result :=
  .next
    (if s.rstLow then s
    else if epoch ≠ s.link.epoch then s.countStale
    else if integrity = .unnamed then s.linkProtocol
    else (s.takeReadUnit dtag idx data integrity).finish)

/-- WRITE_DONE (R73, R89, R90, R92). -/
def execWriteDone (epoch : Epoch) (dtag : SlotId) (outcome : WriteOutcome) (s : State) : Result :=
  .next
    (if s.rstLow then s
    else if epoch ≠ s.link.epoch then s.countStale
    else if outcome = .unnamed then s.linkProtocol
    else (s.takeWriteDone dtag (outcome == .failed)).finish)

/-- UNKNOWN_LINK_MESSAGE: discarded with LINK_PROTOCOL, no epoch test made (R89). -/
def execUnknownLinkMessage (s : State) : Result := .next (if s.rstLow then s else s.linkProtocol)

end Sys2Proof.Machine
end

