-- ==== Sys2Proof/Machine/Operands.lean ====
section
/-! DEFINITION. The operand forms of the management commands: reading command payloads into records with their value checks,
and writing response payloads (R4, R36, R123, R149, R157, R160, R164 to R166). -/

namespace Sys2Proof.Machine

/-! ### Bytes -/

/-- The number a field of several bytes holds, most significant byte first (R164). -/
def bytesToNat (l : List Byte) : Nat := l.foldl (fun n b => n * 256 + b.toNat) 0

/-- A number as `k` bytes, most significant byte first (R164). -/
def natToBytes : Nat → Nat → List Byte
  | 0, _ => []
  | k + 1, n => natToBytes k (n / 256) ++ [BitVec.ofNat 8 n]

/-- Weight of a flag at bit `k`. -/
def bit (b : Bool) (k : Nat) : Nat := if b then 2 ^ k else 0

/-- The number whose bit `k` is the k-th flag of the list. -/
def bitsToNat : List Bool → Nat
  | [] => 0
  | b :: bs => bit b 0 + 2 * bitsToNat bs

/-- A one-byte field that may be absent: FFh when it is (R164). -/
def optByte {n : Nat} (o : Option (Fin n)) : Byte :=
  match o with
  | none => 0xFF
  | some x => BitVec.ofNat 8 x.val

/-- The index of a record, when there is one (R157). -/
def indexIn (n : Nat) (b : Byte) : Option (Fin n) := if h : b.toNat < n then some ⟨b.toNat, h⟩ else none

/-! ### Enumerated codes (R166) -/

def ReportMode.code : ReportMode → Byte
  | .off => 0
  | .protection => 1
  | .memory => 2
  | .all => 3

def reportModeOf (b : Byte) : Option ReportMode :=
  match b.toNat with
  | 0 => some .off
  | 1 => some .protection
  | 2 => some .memory
  | 3 => some .all
  | _ => none

def AccountClass.code : AccountClass → Byte
  | .realtime => 0
  | .budgeted => 1
  | .background => 2

def accountClassOf (b : Byte) : Option AccountClass :=
  match b.toNat with
  | 0 => some .realtime
  | 1 => some .budgeted
  | 2 => some .background
  | _ => none

def NoRegionPolicy.code : NoRegionPolicy → Byte
  | .default => 0
  | .refuse => 1

def noRegionPolicyOf (b : Byte) : Option NoRegionPolicy :=
  match b.toNat with
  | 0 => some .default
  | 1 => some .refuse
  | _ => none

def AccountSelection.code : AccountSelection → Byte
  | .account a => BitVec.ofNat 8 a.val
  | .portDefault => 0x80

def accountSelectionOf (b : Byte) : Option AccountSelection :=
  if h : b.toNat < 16 then some (.account ⟨b.toNat, h⟩) else if b = 0x80 then some .portDefault else none

def Mode.code : Mode → Byte
  | .pass => 0
  | .regulate => 1
  | .draining => 2
  | .quiesced => 3

def LinkState.code : LinkState → Byte
  | .waitCredit => 0
  | .online => 1
  | .failed => 2

def SlotState.code : SlotState → Byte
  | .free => 0
  | .issued => 1
  | .returning => 2
  | .orphaned => 3

/-! ### Statuses (R157) -/

inductive MgmtStatus where
  | ok
  | busy
  | wrongMode
  | badIndex
  | badValue
  | stale
  | badFrame
  | unknownCommand
  deriving DecidableEq, Repr

def MgmtStatus.code : MgmtStatus → Byte
  | .ok => 0
  | .busy => 1
  | .wrongMode => 2
  | .badIndex => 3
  | .badValue => 4
  | .stale => 5
  | .badFrame => 6
  | .unknownCommand => 7

/-- The response payload under a status: the payload for OK, as many zeros for a refusal, none for a frame error (R156). -/
def payloadUnder (st : MgmtStatus) (len : Nat) (payload : List Byte) : List Byte :=
  match st with
  | .ok => payload
  | .busy | .wrongMode | .badIndex | .badValue | .stale => List.replicate len 0
  | .badFrame | .unknownCommand => []

/-- The whole response: status, payload and check (R156). -/
def responseBytes (st : MgmtStatus) (len : Nat) (payload : List Byte) : List Byte :=
  let body := st.code :: payloadUnder st len payload
  body ++ [crc8 body]

/-! ### Region entry (R4, R5) -/

/-- The fields of a region entry whose codes are in range, the base not yet checked. -/
def regionFields (pl : Tab 14 Byte) (c : Fin 29) (r : ReportMode) (sel : Tab 4 AccountSelection) : RegionEntry :=
  { valid := (pl.row 0).getLsbD 7
    base := BitVec.ofNat 40 (bytesToNat [pl.row 2, pl.row 3, pl.row 4, pl.row 5, pl.row 6])
    sizeCode := c
    readPorts := BitVec.ofNat 4 (pl.row 7).toNat
    writePorts := BitVec.ofNat 4 ((pl.row 7).toNat / 16)
    readLevel := Fin.ofNat 4 ((pl.row 8).toNat / 16)
    writeLevel := Fin.ofNat 4 (pl.row 8).toNat
    selection := sel
    guard := (pl.row 0).getLsbD 0
    report := r }

/-- The four account selections, when each names an account or "port default". -/
def selectionFields (pl : Tab 14 Byte) : Option (Tab 4 AccountSelection) :=
  match accountSelectionOf (pl.row 10), accountSelectionOf (pl.row 11), accountSelectionOf (pl.row 12),
    accountSelectionOf (pl.row 13) with
  | some a, some b, some c, some d => some ⟨⟨[a, b, c, d]⟩, rfl⟩
  | _, _, _, _ => none

/-- The record of a WRITE REGION, or none when it is refused with BAD_VALUE (R4). -/
def parseRegion (pl : Tab 14 Byte) : Option RegionEntry :=
  match indexIn 29 (pl.row 1), reportModeOf (pl.row 9), selectionFields pl with
  | some c, some r, some sel =>
    let e := regionFields pl c r sel
    if e.base.toNat % 2 ^ (12 + c.val) = 0 then some e else none
  | _, _, _ => none

/-- The record READ REGION returns (R5, R166). -/
def regionBytes (e : RegionEntry) : List Byte :=
  [BitVec.ofNat 8 (bit e.valid 7 + bit e.guard 0), BitVec.ofNat 8 e.sizeCode.val]
  ++ natToBytes 5 e.base.toNat
  ++ [BitVec.ofNat 8 (e.writePorts.toNat * 16 + e.readPorts.toNat),
      BitVec.ofNat 8 (e.readLevel.val * 16 + e.writeLevel.val), e.report.code]
  ++ e.selection.toList.map AccountSelection.code

/-! ### Account (R36, R40) -/

/-- What a WRITE ACCOUNT carries: the parameters and the reset-balance flag. -/
structure AccountWrite where
  params : AccountParams
  resetBalance : Bool
  deriving DecidableEq, Repr

/-- The record of a WRITE ACCOUNT, or none when it is refused with BAD_VALUE (R36). -/
def parseAccount (pl : Tab 11 Byte) : Option AccountWrite :=
  match accountClassOf (pl.row 0) with
  | none => none
  | some c =>
    let p : AccountParams :=
      { cls := c
        limit := bytesToNat [pl.row 2, pl.row 3]
        clip := bytesToNat [pl.row 4, pl.row 5]
        requestCharge := (pl.row 6).toNat
        unitCharge := (pl.row 7).toNat
        drain := (pl.row 8).toNat
        window := bytesToNat [pl.row 9, pl.row 10] % 4096
        spareUse := (pl.row 1).getLsbD 7 }
    if p.clip < p.limit ∨ p.drain = 0 ∨ p.window = 0 then none
    else some { params := p, resetBalance := (pl.row 1).getLsbD 0 }

/-- The record READ ACCOUNT returns, over worked out from the balance and limit returned (R40, R166). -/
def accountBytes (a : Account) : List Byte :=
  [a.params.cls.code, BitVec.ofNat 8 (bit a.params.spareUse 7 + bit a.over 0)]
  ++ natToBytes 2 a.params.limit ++ natToBytes 2 a.params.clip
  ++ [BitVec.ofNat 8 a.params.requestCharge, BitVec.ofNat 8 a.params.unitCharge, BitVec.ofNat 8 a.params.drain]
  ++ natToBytes 2 a.params.window ++ natToBytes 2 a.balance

/-! ### Port configuration (R123) -/

/-- The record of a WRITE PORT, or none when it is refused with BAD_VALUE (R123). -/
def parsePort (pl : Tab 6 Byte) : Option PortConfig :=
  match indexIn 16 (pl.row 2), noRegionPolicyOf (pl.row 3), reportModeOf (pl.row 5) with
  | some a, some n, some r =>
    let rl := (pl.row 0).toNat
    let wl := (pl.row 1).toNat
    if rl < 1 ∨ 16 < rl ∨ wl < 1 ∨ 16 < wl then none
    else
      some { readLimit := rl, writeLimit := wl, defaultAccount := a, noRegion := n,
             defaultGuard := (pl.row 4).getLsbD 0, defaultReport := r }
  | _, _, _ => none

/-- The record READ PORT returns (R123, R166). -/
def portBytes (c : PortConfig) : List Byte :=
  [BitVec.ofNat 8 c.readLimit, BitVec.ofNat 8 c.writeLimit, BitVec.ofNat 8 c.defaultAccount.val, c.noRegion.code,
   BitVec.ofNat 8 (bit c.defaultGuard 0), c.defaultReport.code]

/-! ### Timing (R161) -/

/-- Tick period, response timeout and orphan limit together. -/
structure TimingWrite where
  period : Nat
  responseTimeout : Nat
  orphanLimit : Nat
  deriving DecidableEq, Repr

/-- The record of a WRITE TIMING, or none when it is refused with BAD_VALUE (R28, R79, R149). -/
def parseTiming (pl : Tab 7 Byte) : Option TimingWrite :=
  let t : TimingWrite :=
    { period := bytesToNat [pl.row 0, pl.row 1, pl.row 2]
      responseTimeout := bytesToNat [pl.row 3, pl.row 4]
      orphanLimit := bytesToNat [pl.row 5, pl.row 6] % 4096 }
  if t.period < 16 ∨ 65536 < t.period ∨ t.orphanLimit = 0 ∨ 4095 < t.responseTimeout then none else some t

/-- The record READ TIMING returns (R161, R166). -/
def timingBytes (s : State) : List Byte :=
  natToBytes 3 s.ticks.period ++ natToBytes 2 s.timing.responseTimeout ++ natToBytes 2 s.timing.orphanLimit

/-! ### Alert sets (R139, R140) -/

/-- The causes a byte names, or none when it names anything beyond the four (R139, R140, R164). -/
def parseAlert (b : Byte) : Option AlertSet :=
  if 16 ≤ b.toNat then none
  else some { check := b.getLsbD 0, quiesced := b.getLsbD 1, linkOnline := b.getLsbD 2, linkFailed := b.getLsbD 3 }

/-- Four bits in the cause order of SET ALERT MASK (R166). -/
def AlertSet.bits (a : AlertSet) : Nat := bitsToNat [a.check, a.quiesced, a.linkOnline, a.linkFailed]

/-! ### Counter groups (R160) -/

/-- A group of counters. -/
inductive Group where
  | account (a : AccountId)
  | port (p : PortId)
  | global
  deriving DecidableEq, Repr

/-- The group that a group kind and a group number name, or the status of the refusal (R160). -/
def parseGroup (groupKind index : Byte) : Except MgmtStatus Group :=
  match groupKind.toNat with
  | 0 =>
    match indexIn 16 index with
    | some a => .ok (.account a)
    | none => .error .badIndex
  | 1 =>
    match indexIn 4 index with
    | some p => .ok (.port p)
    | none => .error .badIndex
  | 2 => .ok .global
  | _ => .error .badValue

/-- The five counters READ COUNTERS returns for a group, 0 where it has fewer (R160, R166). -/
def State.groupCounters (s : State) : Group → List Word32
  | .account a =>
    let c := (s.account a).counters
    [c.grants, c.units, c.overTicks, c.urgentGrants, c.spareGrants]
  | .port p =>
    let c := (s.port p).counters
    [c.accepted, c.refused, c.timedOut, c.aborted, 0]
  | .global =>
    let c := s.chk.globals
    [c.late, c.stale, c.suppressed, 0, 0]

/-- The counters as bytes. -/
def countersBytes (l : List Word32) : List Byte := l.flatMap (fun c => natToBytes 4 c.toNat)

/-- Every counter of the group is set to 0 (R160). -/
def State.clearGroup (s : State) : Group → State
  | .account a => s.modAccount a (fun r => { r with counters := AccountCounters.zero })
  | .port p => s.modPort p (fun po => { po with counters := PortCounters.zero })
  | .global => { s with chk := { s.chk with globals := GlobalCounters.zero } }

/-! ### Status, check record and slot (R87, R134, R159) -/

/-- Identity of the part (R158, R165). -/
def identBytes : List Byte :=
  natToBytes 2 Config.vendorCode ++ natToBytes 2 Config.partCode ++ [BitVec.ofNat 8 Config.revisionCode]

/-- Head age of a port, FFFFh when its queue is empty (R159, R166). -/
def State.headAge (s : State) (p : PortId) : Nat :=
  match (s.port p).queue with
  | [] => 0xFFFF
  | e :: _ => e.age

/-- The part status record (R159, R166). -/
def statusBytes (s : State) : List Byte :=
  [s.mode.code, s.link.state.code, BitVec.ofNat 8 s.link.epoch.val, BitVec.ofNat 8 s.link.advertised,
   BitVec.ofNat 8 s.availableCredits, BitVec.ofNat 8 s.slotsInUse]
  ++ allPorts.map (fun p => BitVec.ofNat 8 (s.port p).queue.length)
  ++ allPorts.map (fun p => BitVec.ofNat 8 (s.port p).list.length)
  ++ allPorts.flatMap (fun p => natToBytes 2 (s.headAge p))
  ++ [BitVec.ofNat 8 (s.chk.mask.bits * 16 + s.chk.pending.bits)]
  ++ natToBytes 4 s.ticks.stamp.toNat

/-- The capture part of READ CHECK RECORD, bytes 6 to 20 (R166). -/
def captureBytes : Option Capture → List Byte
  | none =>
    [0, 0, 0xFF, 0xFF] ++ List.replicate 5 0 ++ [0xFF, 0xFF] ++ List.replicate 4 0
  | some c =>
    [BitVec.ofNat 8 c.kind.code.val, BitVec.ofNat 8 c.kind.severity, optByte c.port, optByte c.tag]
    ++ natToBytes 5 (c.addr.getD 0).toNat ++ [optByte c.region, optByte c.account] ++ natToBytes 4 c.stamp.toNat

/-- The check record (R134, R166). -/
def checkRecordBytes (r : CheckRecord) : List Byte :=
  natToBytes 2 r.sequence.toNat ++ natToBytes 2 (bitsToNat r.kinds.toList)
  ++ [BitVec.ofNat 8 r.count,
      BitVec.ofNat 8 (bit r.replaced 7 + bit r.primary.isSome 6 + bit (r.primary.bind (·.addr)).isSome 0)]
  ++ captureBytes r.primary

/-- The slot record with its age and time orphaned (R87, R166). -/
def slotBytes (sl : Slot) : List Byte :=
  [sl.state.code,
   BitVec.ofNat 8 (bit sl.detached 7 + bit sl.poisoned 6 + bit sl.guard 5 + bit sl.orphanTick.isSome 1 + dirCode sl.dir),
   BitVec.ofNat 8 sl.port.val, BitVec.ofNat 8 sl.tag.val]
  ++ natToBytes 5 sl.addr.toNat
  ++ [BitVec.ofNat 8 sl.len, optByte sl.account, optByte sl.region, sl.report.code, BitVec.ofNat 8 sl.epoch.val]
  ++ natToBytes 2 (bitsToNat sl.received.toList)
  ++ natToBytes 4 sl.issueTick.toNat ++ natToBytes 4 (sl.orphanTick.getD 0).toNat
  ++ natToBytes 2 (min sl.age 0xFFFF)
  ++ natToBytes 2 (if sl.state = .orphaned then sl.timeOrphaned else 0)

end Sys2Proof.Machine
end

