-- ==== Sys2Proof/Machine/Management.lean ====
section
/-! DEFINITION. The management port: CS_N_FALL, CS_N_RISE, BAD_FRAME, UNKNOWN_COMMAND and the command rows READ_IDENT to
ACK_ALERT (R4, R5, R36, R37, R40, R87, R102, R123, R134, R135, R139, R140, R144, R145, R149, R152 to R161). -/

namespace Sys2Proof.Machine

/-! ### The transaction -/

/-- What the block that carries out a command answers: the status and payload, and the state the command leaves. -/
structure Answer where
  status : MgmtStatus
  payload : List Byte
  state : State

/-- The response is fixed (R154, R156). -/
def State.respond (s : State) (command : List Byte) (len : Nat) (st : MgmtStatus) (payload : List Byte) : State :=
  { s with mgmt := { s.mgmt with transaction := .answered command (responseBytes st len payload) } }

/-- The bytes received so far in a transaction: command code, index, payload and, at its end, the command check (R152). -/
def Transaction.received : Transaction → List Byte
  | .idle => []
  | .begun r => r
  | .answered c _ => c

/-- The position reached within the command bytes of a transaction (R152, Table 9-1). Once the check is received it stays:
the bytes clocked after it come with CS_N_RISE (log 12). -/
def Transaction.position (t : Transaction) : Nat := t.received.length

/-- The transaction has begun and the bytes received so far are a part of this frame, its check not among them. -/
def Transaction.awaits (t : Transaction) (frame : List Byte) : Bool :=
  match t with
  | .begun r => r.isPrefixOf frame && decide (r.length < frame.length)
  | .idle | .answered _ _ => false

/-- The rest of a frame is received in the transaction that has begun: `f` carries it out and its answer becomes the response.
With no transaction begun, one already answered, or one that has received other bytes, nothing is taken (R152, R155, log 3). -/
def State.onFrame (s : State) (command : List Byte) (len : Nat) (f : State → Answer) : State :=
  if s.mgmt.transaction.awaits command then (f s).state.respond command len (f s).status (f s).payload else s

/-- A named command whose check matched is taken (R154): its frame is `encodeFrame c`. -/
def State.onCommand (s : State) (c : Instr) (f : State → Answer) : State :=
  let frame := (encodeFrame c).getD []
  s.onFrame frame (responseLength (frame.headD 0)) f

/-- Answered OK with a payload, the state unchanged. -/
def State.returns (s : State) (payload : List Byte) : Answer := { status := .ok, payload := payload, state := s }

/-- Refused: nothing changes (R157). -/
def State.refuses (s : State) (st : MgmtStatus) : Answer := { status := st, payload := [], state := s }

/-- Answered OK, the command's effect being `t`. -/
def State.did (t : State) : Answer := { status := .ok, payload := [], state := t }

/-- What SDO carries in a transaction whose command bytes and response are these, over `clocked` bytes: filler for the
command bytes and the turnaround, the response, and filler after it (R155, R156, R164). -/
def sdoStream (command response : List Byte) (clocked : Nat) : List Byte :=
  (List.replicate (command.length + Config.turnaround) Config.filler ++ response ++ List.replicate clocked Config.filler).take
    clocked

/-- CS_N_FALL: a transaction begins when CS_N falls while RST_N is high with
nothing received (R152). -/
def execCsNFall (s : State) : Result :=
  .next
    (if s.mgmt.csLow then s
    else { s with mgmt := { s.mgmt with csLow := true, transaction := if s.rstLow then .idle else .begun [] } })

/-- CS_N_RISE: the transaction ends; a command not yet taken is discarded and the rest of a response is lost (R152, R155). -/
def execCsNRise (clocked : Nat) (s : State) : Result :=
  .next
    (if s.mgmt.csLow then
      let sdo :=
        match s.mgmt.transaction with
        | .idle => s.mgmt.sdo
        | .begun _ => List.replicate clocked Config.filler
        | .answered c r => sdoStream c r clocked
      { s with mgmt := { csLow := false, transaction := .idle, sdo := sdo } }
    else s)

/-- BAD_FRAME: the check does not match; the command is not carried out (R154). -/
def execBadFrame (code index : Byte) (payload : List Byte) (check : Byte) (s : State) : Result :=
  .next
    (if crc8 (code :: index :: payload) = check then s
    else s.onFrame (code :: index :: (payload ++ [check])) (responseLength code) (fun s => s.refuses .badFrame))

/-- UNKNOWN_COMMAND: the check matches and the code names no command; nothing is carried out (R153, R154). -/
def execUnknownCommand (code index : Byte) (s : State) : Result :=
  .next
    (if (codeLengths code).isSome then s
    else s.onCommand (.unknownCommand code index) (fun s => s.refuses .unknownCommand))

/-! ### Reading -/

/-- READ_IDENT (R158). -/
def execReadIdent (index : Byte) (s : State) : Result := .next (s.onCommand (.readIdent index) (fun s => s.returns identBytes))

/-- READ_STATUS (R159). -/
def execReadStatus (index : Byte) (s : State) : Result :=
  .next (s.onCommand (.readStatus index) (fun s => s.returns (statusBytes s)))

/-- READ_REGION (R5). -/
def execReadRegion (index : Byte) (s : State) : Result :=
  .next (s.onCommand (.readRegion index) (fun s =>
    match indexIn 16 index with
    | none => s.refuses .badIndex
    | some i => s.returns (regionBytes (s.regions.row i))))

/-- READ_ACCOUNT (R40). -/
def execReadAccount (index : Byte) (s : State) : Result :=
  .next (s.onCommand (.readAccount index) (fun s =>
    match indexIn 16 index with
    | none => s.refuses .badIndex
    | some a => s.returns (accountBytes (s.account a))))

/-- READ_PORT (R123). -/
def execReadPort (index : Byte) (s : State) : Result :=
  .next (s.onCommand (.readPort index) (fun s =>
    match indexIn 4 index with
    | none => s.refuses .badIndex
    | some p => s.returns (portBytes (s.port p).config)))

/-- READ_TIMING (R161). -/
def execReadTiming (index : Byte) (s : State) : Result :=
  .next (s.onCommand (.readTiming index) (fun s => s.returns (timingBytes s)))

/-- READ_CHECK_RECORD (R134). -/
def execReadCheckRecord (index : Byte) (s : State) : Result :=
  .next (s.onCommand (.readCheckRecord index) (fun s => s.returns (checkRecordBytes s.chk.record)))

/-- READ_COUNTERS (R160). -/
def execReadCounters (index groupKind : Byte) (s : State) : Result :=
  .next (s.onCommand (.readCounters index groupKind) (fun s =>
    match parseGroup groupKind index with
    | .error st => s.refuses st
    | .ok g => s.returns (countersBytes (s.groupCounters g))))

/-- READ_SLOT (R87). -/
def execReadSlot (index : Byte) (s : State) : Result :=
  .next (s.onCommand (.readSlot index) (fun s =>
    match indexIn 32 index with
    | none => s.refuses .badIndex
    | some i => s.returns (slotBytes (s.slot i))))

/-! ### Writing -/

/-- WRITE_REGION (R4). -/
def execWriteRegion (index : Byte) (payload : Tab 14 Byte) (s : State) : Result :=
  .next (s.onCommand (.writeRegion index payload) (fun s =>
    match indexIn 16 index with
    | none => s.refuses .badIndex
    | some i =>
      match parseRegion payload with
      | none => s.refuses .badValue
      | some e => State.did { s with regions := s.regions.setRow i e }))

/-- An account after a WRITE ACCOUNT that passes its checks (R37). -/
def Account.write (a : Account) (w : AccountWrite) : Account :=
  { a with params := w.params, balance := if w.resetBalance then 0 else min a.balance w.params.clip }

/-- WRITE_ACCOUNT (R36, R37). -/
def execWriteAccount (index : Byte) (payload : Tab 11 Byte) (s : State) : Result :=
  .next (s.onCommand (.writeAccount index payload) (fun s =>
    match indexIn 16 index with
    | none => s.refuses .badIndex
    | some a =>
      match parseAccount payload with
      | none => s.refuses .badValue
      | some w => State.did (s.modAccount a (fun r => r.write w))))

/-- WRITE_PORT (R123, R149). -/
def execWritePort (index : Byte) (payload : Tab 6 Byte) (s : State) : Result :=
  .next (s.onCommand (.writePort index payload) (fun s =>
    match indexIn 4 index with
    | none => s.refuses .badIndex
    | some p =>
      if s.mode ≠ .quiesced then s.refuses .wrongMode
      else
        match parsePort payload with
        | none => s.refuses .badValue
        | some c => State.did (s.modPort p (fun po => { po with config := c }))))

/-- The three timing values replaced at one event, the REFCLK count restarted, the stamp kept (R28, R161). -/
def State.writeTiming (s : State) (t : TimingWrite) : State :=
  { s with
    ticks := { s.ticks with period := t.period, count := 0 }
    timing := { responseTimeout := t.responseTimeout, orphanLimit := t.orphanLimit } }

/-- WRITE_TIMING (R149, R161). -/
def execWriteTiming (index : Byte) (payload : Tab 7 Byte) (s : State) : Result :=
  .next (s.onCommand (.writeTiming index payload) (fun s =>
    if s.mode ≠ .quiesced then s.refuses .wrongMode
    else
      match parseTiming payload with
      | none => s.refuses .badValue
      | some t => State.did (s.writeTiming t)))

/-! ### SET MODE and RESET LINK -/

/-- SET MODE with target PASS or REGULATE; the ports then take what they can of the REQUESTs they held (R110, R144). -/
def State.setAdmitting (s : State) (m : Mode) : Answer :=
  if s.mode = .draining then s.refuses .busy else State.did { s with mode := m }.finish

/-- SET MODE with target DRAIN: the drain condition is examined as part of the same event (R145). -/
def State.setDrain (s : State) : Answer :=
  match s.mode with
  | .pass | .regulate => State.did { s with mode := .draining }.examineDrain
  | .draining | .quiesced => State.did s

/-- SET MODE by its target code, tested before the mode (R144, R145). -/
def State.setMode (s : State) (target : Byte) : Answer :=
  match target.toNat with
  | 0 => s.setAdmitting .pass
  | 1 => s.setAdmitting .regulate
  | 2 => s.setDrain
  | _ => s.refuses .badValue

/-- SET_MODE_PASS; a target code that names no target is refused (R144, log 11). -/
def execSetModePass (index target : Byte) (s : State) : Result :=
  .next (s.onCommand (.setModePass index target) (fun s => s.setMode target))

/-- SET_MODE_REGULATE (R144). -/
def execSetModeRegulate (index : Byte) (s : State) : Result :=
  .next (s.onCommand (.setModeRegulate index) (fun s => s.setMode 1))

/-- SET_MODE_DRAIN (R145). -/
def execSetModeDrain (index : Byte) (s : State) : Result :=
  .next (s.onCommand (.setModeDrain index) (fun s => s.setMode 2))

/-- RESET LINK without the retirements it makes due (R102). -/
def State.resetLink (s : State) : State :=
  let s := s.freeAllSlots
  let s := { s with link := { state := .waitCredit, epoch := s.link.epoch + 1, advertised := 0 } }
  s.sendDn (.restart s.link.epoch)

/-- RESET_LINK: the fences that then retire, and a drain they complete, are parts of the same event (R102, R146). -/
def execResetLink (index : Byte) (s : State) : Result :=
  .next (s.onCommand (.resetLink index) (fun s => State.did s.resetLink.settle))

/-! ### Checks, counters and the alert line -/

/-- CLEAR_CHECKS (R135). -/
def execClearChecks (index : Byte) (payload : Tab 2 Byte) (s : State) : Result :=
  .next (s.onCommand (.clearChecks index payload) (fun s =>
    if bytesToNat payload.toList = s.chk.record.sequence.toNat then
      State.did { s with chk := { s.chk with record := s.chk.record.clear } }
    else s.refuses .stale))

/-- CLEAR_COUNTERS (R160). -/
def execClearCounters (index groupKind : Byte) (s : State) : Result :=
  .next (s.onCommand (.clearCounters index groupKind) (fun s =>
    match parseGroup groupKind index with
    | .error st => s.refuses st
    | .ok g => State.did (s.clearGroup g)))

/-- SET_ALERT_MASK (R139). -/
def execSetAlertMask (index mask : Byte) (s : State) : Result :=
  .next (s.onCommand (.setAlertMask index mask) (fun s =>
    match parseAlert mask with
    | none => s.refuses .badValue
    | some m => State.did { s with chk := { s.chk with mask := m } }))

/-- The pending flags with the named ones cleared (R140). -/
def AlertSet.without (a b : AlertSet) : AlertSet :=
  { check := a.check && !b.check, quiesced := a.quiesced && !b.quiesced, linkOnline := a.linkOnline && !b.linkOnline,
    linkFailed := a.linkFailed && !b.linkFailed }

/-- ACK_ALERT (R140). -/
def execAckAlert (index causes : Byte) (s : State) : Result :=
  .next (s.onCommand (.ackAlert index causes) (fun s =>
    match parseAlert causes with
    | none => s.refuses .badValue
    | some a => State.did { s with chk := { s.chk with pending := s.chk.pending.without a } }))

end Sys2Proof.Machine
end

