-- ==== Sys2Proof/Machine/Dispatch.lean ====
section
/-! DEFINITION. `exec`: one arm for each command, each one call of its meaning. -/

namespace Sys2Proof.Machine

def exec (i : Instr) (s : State) : Host.Outcome State Fault Refusal :=
  match i with
  | .fullReset withdrawn => Sys2Proof.Machine.execFullReset withdrawn s
  | .rstNRelease => Sys2Proof.Machine.execRstNRelease s
  | .portReset p withdrawn => Sys2Proof.Machine.execPortReset p withdrawn s
  | .portResetRelease p => Sys2Proof.Machine.execPortResetRelease p s
  | .request p m => Sys2Proof.Machine.execRequest p m s
  | .writeUnit p u => Sys2Proof.Machine.execWriteUnit p u s
  | .tick cycles => Sys2Proof.Machine.execTick cycles s
  | .urgentMark p => Sys2Proof.Machine.execUrgentMark p s
  | .responseTimeout j => Sys2Proof.Machine.execResponseTimeout j s
  | .detachedTimeout j => Sys2Proof.Machine.execDetachedTimeout j s
  | .orphanLimitExpiry j => Sys2Proof.Machine.execOrphanLimitExpiry j s
  | .grant => Sys2Proof.Machine.execGrant s
  | .retireRefused p => Sys2Proof.Machine.execRetireRefused p s
  | .retireDataerr p => Sys2Proof.Machine.execRetireDataerr p s
  | .retireFence p => Sys2Proof.Machine.execRetireFence p s
  | .failFast p => Sys2Proof.Machine.execFailFast p s
  | .drainComplete => Sys2Proof.Machine.execDrainComplete s
  | .advertise epoch credits => Sys2Proof.Machine.execAdvertise epoch credits s
  | .readUnit epoch dtag idx data integrity => Sys2Proof.Machine.execReadUnit epoch dtag idx data integrity s
  | .writeDone epoch dtag outcome => Sys2Proof.Machine.execWriteDone epoch dtag outcome s
  | .unknownLinkMessage => Sys2Proof.Machine.execUnknownLinkMessage s
  | .csNFall => Sys2Proof.Machine.execCsNFall s
  | .csNRise clocked => Sys2Proof.Machine.execCsNRise clocked s
  | .badFrame code index payload check => Sys2Proof.Machine.execBadFrame code index payload check s
  | .unknownCommand code index => Sys2Proof.Machine.execUnknownCommand code index s
  | .readIdent index => Sys2Proof.Machine.execReadIdent index s
  | .readStatus index => Sys2Proof.Machine.execReadStatus index s
  | .readRegion index => Sys2Proof.Machine.execReadRegion index s
  | .writeRegion index payload => Sys2Proof.Machine.execWriteRegion index payload s
  | .readAccount index => Sys2Proof.Machine.execReadAccount index s
  | .writeAccount index payload => Sys2Proof.Machine.execWriteAccount index payload s
  | .readPort index => Sys2Proof.Machine.execReadPort index s
  | .writePort index payload => Sys2Proof.Machine.execWritePort index payload s
  | .readTiming index => Sys2Proof.Machine.execReadTiming index s
  | .writeTiming index payload => Sys2Proof.Machine.execWriteTiming index payload s
  | .setModePass index target => Sys2Proof.Machine.execSetModePass index target s
  | .setModeRegulate index => Sys2Proof.Machine.execSetModeRegulate index s
  | .setModeDrain index => Sys2Proof.Machine.execSetModeDrain index s
  | .resetLink index => Sys2Proof.Machine.execResetLink index s
  | .readCheckRecord index => Sys2Proof.Machine.execReadCheckRecord index s
  | .clearChecks index payload => Sys2Proof.Machine.execClearChecks index payload s
  | .readCounters index groupKind => Sys2Proof.Machine.execReadCounters index groupKind s
  | .clearCounters index groupKind => Sys2Proof.Machine.execClearCounters index groupKind s
  | .readSlot index => Sys2Proof.Machine.execReadSlot index s
  | .setAlertMask index mask => Sys2Proof.Machine.execSetAlertMask index mask s
  | .ackAlert index causes => Sys2Proof.Machine.execAckAlert index causes s

end Sys2Proof.Machine
end

