-- ==== Sys2Proof/Machine/Step.lean ====
section
/-! DEFINITION. `step`: the command at the front of the queue is taken; on an empty queue the block idles (log 4). -/

namespace Sys2Proof.Machine

/-- One step of the block. -/
def step (s : State) : Host.Outcome State Fault Refusal :=
  match s.pending with
  | [] => .next s
  | c :: rest => exec c { s with pending := rest }

/-- The state with the command that a word spells put at the front of its queue; no word spells one. -/
def State.withFetchWord (s : State) (nbits w : Nat) : State :=
  match decodeTableWord nbits w with
  | none => s
  | some c => { s with pending := c :: s.pending }

end Sys2Proof.Machine
end

