-- ==== Sys2Proof/Safety.lean ====
section
/-! DEFINITION. The conditions the rules promise in every state: values and counts in range, the link and the slots agreeing, the
owed counts and tag sets agreeing with the slots, the data order lists and the buffer agreeing with the queues, the quiesced part
empty, and nothing due left untaken.
Rules: R21, R22, R28, R34, R42, R44, R51, R64, R66, R77, R79, R88, R91, R93, R104, R111, R114, R115, R118, R122, R131, R132,
R148. -/

namespace Sys2Proof.Machine

/-! ### Values in range -/

/-- Balance at most the clip, and every parameter in the range of Table 2-1 (R21, R22). -/
def Account.inRange (a : Account) : Prop :=
  a.balance ≤ a.params.clip ∧ a.params.limit ≤ a.params.clip ∧ a.params.clip ≤ 65535
    ∧ a.params.requestCharge ≤ 255 ∧ a.params.unitCharge ≤ 255
    ∧ 1 ≤ a.params.drain ∧ a.params.drain ≤ 255 ∧ 1 ≤ a.params.window ∧ a.params.window ≤ 4095

/-- Every account is in range (R22). -/
def AccountsInRange (s : State) : Prop := ∀ a : AccountId, (s.account a).inRange

/-- Tick period 16 to 65536 with the REFCLK count below it (R28); timeout at most 4095, orphan limit 1 to 4095 (R79). -/
def TimingInRange (s : State) : Prop :=
  16 ≤ s.ticks.period ∧ s.ticks.period ≤ 65536 ∧ s.ticks.count < s.ticks.period
    ∧ s.timing.responseTimeout ≤ 4095 ∧ 1 ≤ s.timing.orphanLimit ∧ s.timing.orphanLimit ≤ 4095

/-- Every base in the region table is a multiple of its region's size (R2). -/
def RegionsAligned (s : State) : Prop := ∀ i : RegionId, (s.regions.row i).base.toNat % (s.regions.row i).bytes = 0

/-- Queue and list hold at most 16 (R42, R114), limits are 1 to 16 (R123), ages at most 4095 (R34). -/
def PortsInRange (s : State) : Prop :=
  ∀ p : PortId, (s.port p).queue.length ≤ 16 ∧ (s.port p).list.length ≤ 16
    ∧ 1 ≤ (s.port p).config.readLimit ∧ (s.port p).config.readLimit ≤ 16
    ∧ 1 ≤ (s.port p).config.writeLimit ∧ (s.port p).config.writeLimit ≤ 16
    ∧ ∀ e ∈ (s.port p).queue, e.age ≤ 4095

/-- No port holds more than 16 reserve units, and the ports together no more than 64 shared units (R118). -/
def BufferInRange (s : State) : Prop := (∀ p : PortId, (s.bufCounts p).reserve ≤ 16) ∧ s.sharedInUse ≤ 64

/-! ### Write data (R88, R114, R115, R118) -/

/-- Fewer units are taken than expected, at most 31 are expected, and a STORE record has an entry (R114). -/
def ListRecord.inRange (r : ListRecord) : Prop := r.taken < r.expected ∧ r.expected ≤ 31 ∧ (r.mode = .store → r.entry ≠ none)

/-- The entry is the write that the record stands for: it waits for as many units as the record expects, and it holds the units
taken when the record is STORE; of a SINK record the write is no longer to be issued (R114, R115, R117). -/
def Entry.waitsFor (e : Entry) (r : ListRecord) : Prop :=
  r.entry = some e.tag ∧ e.kind = .write ∧ e.data = .waitingData ∧ e.units = r.expected
    ∧ (r.mode = .store → e.disposition = .issue ∧ e.held.length = r.taken)
    ∧ (r.mode = .sink → e.disposition ≠ .issue)

/-- Only a WRITE waits for data; an entry to be issued is 1 to 16 units long; a write to be issued holds all its units once its
data is complete, and no other entry than a write to be issued holds any (R9, R18, R115, R117). -/
def Entry.dataSound (e : Entry) : Prop :=
  (e.data = .waitingData → e.kind = .write ∧ e.disposition ≠ .fence)
    ∧ (e.disposition = .issue → 1 ≤ e.units ∧ e.units ≤ 16)
    ∧ (e.disposition = .issue → e.kind = .write → e.data = .complete → e.held.length = e.units)
    ∧ (e.disposition ≠ .issue ∨ e.kind ≠ .write → e.held = [])

/-- Each record of a data order list is in range and its entry, when it has one, waits for it; no two records have the same
entry, and each entry that waits has a record; the units a port holds are those of its entries (R114, R118). -/
def WriteDataSound (s : State) : Prop :=
  ∀ p : PortId,
    (∀ r ∈ (s.port p).list, r.inRange ∧ ∀ t, r.entry = some t → ∃ e ∈ (s.port p).queue, e.tag = t ∧ e.waitsFor r)
      ∧ ((s.port p).list.filterMap (·.entry)).Nodup
      ∧ (∀ e ∈ (s.port p).queue, e.dataSound ∧ (e.data = .waitingData → ∃ r ∈ (s.port p).list, r.entry = some e.tag))
      ∧ (s.bufCounts p).reserve + (s.bufCounts p).shared = ((s.port p).queue.map (·.held.length)).sum

/-- An ISSUE of a write carries exactly as many units as its length field says, and an ISSUE of a read none (R88, R167). -/
def DnMsg.unitsMatch : DnMsg → Prop
  | .restart _ => True
  | .issue _ _ .read _ _ units => units = none
  | .issue _ _ .write _ lengthField units => ∃ us, units = some us ∧ us.length = lengthField.toNat + 1

/-- Every ISSUE sent carries the units its fields say (R88). -/
def IssuesSound (s : State) : Prop := ∀ m ∈ s.mlDn, m.unitsMatch

/-! ### The check record (R131, R132) -/

/-- The record is empty (R131). -/
def CheckRecord.isEmpty (r : CheckRecord) : Prop :=
  (∀ k : CheckKind, r.kinds.row k.code = false) ∧ r.count = 0 ∧ r.replaced = false ∧ r.primary = none

/-- The primary capture is of a seen kind and at least as severe as every kind seen; the count is 1 to 255 (R132). -/
def CheckRecord.holds (r : CheckRecord) (c : Capture) : Prop :=
  r.primary = some c ∧ r.kinds.row c.kind.code = true ∧ 1 ≤ r.count ∧ r.count ≤ 255
    ∧ ∀ k : CheckKind, r.kinds.row k.code = true → k.severity ≤ c.kind.severity

/-- The record is empty, or holds a primary capture of the highest severity seen (R131, R132). -/
def CheckRecordSound (s : State) : Prop := s.chk.record.isEmpty ∨ ∃ c : Capture, s.chk.record.holds c

/-! ### The link and the slots -/

/-- A FREE slot stands at the reset values of Table 4-1 (R64). -/
def SlotsClean (s : State) : Prop := ∀ i : SlotId, (s.slot i).busy = false → s.slot i = Slot.reset

/-- The slots in use never outnumber the credits, which are 1 to 32 while ONLINE and 0 otherwise; every slot in use holds the
current epoch (R66, R93, R104); and while RST_N is low the link holds its reset values and no transaction runs (R92, R152). -/
def LinkSound (s : State) : Prop :=
  s.slotsInUse ≤ s.link.advertised ∧ s.link.advertised ≤ 32
    ∧ (s.link.state = .online ↔ 1 ≤ s.link.advertised)
    ∧ (∀ i : SlotId, (s.slot i).busy = true → (s.slot i).epoch = s.link.epoch)
    ∧ (s.rstLow = true → s.link = Link.reset ∧ s.mgmt.transaction = .idle)

/-- No two slots in use that were both granted under the ordering guard overlap with a write among them (R77): the later granted
of the two found the guard clear. -/
def GuardedApart (s : State) : Prop :=
  ∀ i j : SlotId, i ≠ j → (s.slot i).busy = true → (s.slot j).busy = true → (s.slot i).guard = true → (s.slot j).guard = true →
    (s.slot i).addr.toNat ≤ (s.slot j).addr.toNat + 32 * (s.slot j).len - 1 →
    (s.slot j).addr.toNat ≤ (s.slot i).addr.toNat + 32 * (s.slot i).len - 1 →
    (s.slot i).dir = .read ∧ (s.slot j).dir = .read

/-! ### What the ports are owed -/

/-- The number of slots that owe port `p` an answer of a kind (R65). -/
def State.owedSlots (s : State) (p : PortId) (d : Dir) : Nat :=
  (s.slots.toList.filter (fun sl => sl.owes && sl.port == p && sl.dir == d)).length

/-- The owed counts are the numbers of slots that owe an answer, by kind (R122). -/
def OwedSound (s : State) : Prop :=
  ∀ p : PortId, (s.port p).owedReads = s.owedSlots p .read ∧ (s.port p).owedWrites = s.owedSlots p .write

/-- The owed counts stay within the port's limits (R51). -/
def OwedWithinLimits (s : State) : Prop :=
  ∀ p : PortId, (s.port p).owedReads ≤ (s.port p).config.readLimit ∧ (s.port p).owedWrites ≤ (s.port p).config.writeLimit

/-- Slot `i` owes port `p` the answer of tag `t`. -/
def State.owesTag (s : State) (p : PortId) (t : Tag) (i : SlotId) : Prop :=
  (s.slot i).owes = true ∧ (s.slot i).port = p ∧ (s.slot i).tag = t

/-- The tag set of a port holds exactly the tags of its queue and of the slots that owe it an answer, and no two of these
carry the same tag (R111). -/
def TagsSound (s : State) : Prop :=
  ∀ p : PortId,
    (∀ t : Tag, (s.port p).tags.row t = true ↔ t ∈ (s.port p).queue.map (·.tag) ∨ ∃ i, s.owesTag p t i)
      ∧ ((s.port p).queue.map (·.tag)).Nodup
      ∧ (∀ t i j, s.owesTag p t i → s.owesTag p t j → i = j)
      ∧ (∀ t i, s.owesTag p t i → t ∉ (s.port p).queue.map (·.tag))

/-! ### Modes and due events -/

/-- In QUIESCED every queue, list and slot is empty (R148). -/
def QuiescedEmpty (s : State) : Prop := s.mode = .quiesced → s.drained = true

/-- Nothing that the part takes by itself is due, unless the queue names one of those events next (R44, R146, log 1). -/
def Prompt (s : State) : Prop := s.ownEventNext = true ∨ s.nextDue = none

/-! ### Words of the statements -/

/-- A transaction has begun, and the bytes received in it so far are a part of the frame of `c`, the check still missing: the
frame of `c` can be received next (R152, log 12). -/
def State.awaits (s : State) (c : Instr) : Prop :=
  ∃ received rest : List Byte,
    s.mgmt.transaction = .begun received ∧ rest ≠ [] ∧ encodeFrame c = some (received ++ rest)

/-- Of all that is due, the oldest REQUEST offered at the port comes next in the model's order (log 2). -/
def State.requestIsNext (s : State) (p : PortId) : Prop :=
  (∀ q, s.retireStatus q = none) ∧ (∀ q, s.unitDue q = false) ∧ ∀ q, q < p → s.requestDue q = false

/-- Of all that is due, the oldest WRITE UNIT offered at the port comes next in the model's order (log 2). -/
def State.unitIsNext (s : State) (p : PortId) : Prop :=
  (∀ q, s.retireStatus q = none) ∧ ∀ q, q < p → s.unitDue q = false

/-- The port takes the WRITE UNIT `u` for its oldest record `r` into a buffer unit, reserve first: the unit leaves the offers, of
which `us` stay, and joins the held units of the record's entry; with its last unit the record leaves the list, of which `rs`
stays, and the entry's data is complete (R115, R119). -/
def State.stored (s : State) (p : PortId) (u : WriteUnitMsg) (us : List WriteUnitMsg) (r : ListRecord) (rs : List ListRecord) :
    State :=
  (s.setBuf p (if (s.bufCounts p).reserve < 16 then { s.bufCounts p with reserve := (s.bufCounts p).reserve + 1 }
      else { s.bufCounts p with shared := (s.bufCounts p).shared + 1 })).modPort p (fun po =>
    { po with
      dataOffers := us
      list := if r.expected ≤ r.taken + 1 then rs else { r with taken := r.taken + 1 } :: rs
      queue := po.queue.map (fun e =>
        if r.entry = some e.tag then
          { e with held := e.held ++ [{ data := u.data, mask := u.mask }]
                   data := if r.expected ≤ r.taken + 1 then .complete else e.data }
        else e) })

/-- The transaction in progress holds the frame of the command `c` and a response of this status and payload (R154, R156). -/
def State.answered (t : State) (c : Instr) (st : MgmtStatus) (payload : List Byte) : State :=
  { t with mgmt := { t.mgmt with
      transaction := .answered ((encodeFrame c).getD []) (st.code :: payload ++ [crc8 (st.code :: payload)]) } }

/-- The tag leaves a port's set and a DONE is sent for it (R121). -/
def Port.answers (po : Port) (t : Tag) (st : DoneStatus) : Port :=
  { po with rsp := po.rsp ++ [.done t st], tags := po.tags.setRow t false }

/-- The capture of a check with no optional field (Table 7-2). -/
def plainCapture (k : CheckKind) (stamp : Word32) : Capture :=
  { kind := k, port := none, tag := none, addr := none, region := none, account := none, stamp := stamp }

/-- The capture of a check raised for a slot (Table 7-2). -/
def captureOf (k : CheckKind) (sl : Slot) (stamp : Word32) : Capture :=
  { kind := k, port := some sl.port, tag := some sl.tag, addr := some sl.addr, region := sl.region, account := sl.account,
    stamp := stamp }

end Sys2Proof.Machine
end

