-- ==== Sys2Proof/Certificates/Slice0/Obligations.lean ====
section
/-! DEFINITION. The statements for the provers. A statement of a command's result is an equation: for every state and operands
that meet its hypotheses, `exec` answers the next state that the rules give, written as an update of the state before, so that
what the update does not name is unchanged. `finish` at its end is the taking of what the event made due (logs 1 and 2);
`FinishLeavesNothingDue` and `FinishKeepsTablesTicksSettingsAndQueue` say what it does, and the statements on taking a waiting
REQUEST or WRITE UNIT say what it takes. -/

open Sys2Proof Sys2Proof.Machine

/-! ### The queue and the end of an event -/

/-- A step takes the command at the front of the queue; on an empty queue the block idles (the model's choice, log 4). -/
def Obligations.StepTakesFrontCommand : Prop :=
  (∀ (c : Instr) (s : State) (rest : List Instr),
      step { s with pending := c :: rest } = exec c { s with pending := rest })
    ∧ ∀ s : State, s.pending = [] → step s = .next s

/-- Every command answers a next state in every state (log 3: a row whose condition does not hold is not taken, and that is no
stop), and leaves the queue of commands, which is the model's own, as it is (log 1). -/
def Obligations.EveryCommandAnswersNext : Prop :=
  ∀ (c : Instr) (s : State), ∃ t : State, exec c s = .next t ∧ t.pending = s.pending

/-- R44, R110, R119, R146: after the end of an event no head can retire, no offered message can be taken, no mark, timeout or
expiry that a tick found is untaken, and a drain whose condition holds is complete (unless the queue names one of these events
next, log 1). -/
def Obligations.FinishLeavesNothingDue : Prop :=
  ∀ s : State, s.ownEventNext = false →
    (∀ p, s.finish.retireStatus p = none) ∧ (∀ p, s.finish.unitDue p = false) ∧ (∀ p, s.finish.requestDue p = false)
      ∧ (∀ p, s.finish.markIsDue p = false)
      ∧ (∀ i, s.finish.timeoutIsDue i = false ∧ s.finish.detachedIsDue i = false ∧ s.finish.expiryIsDue i = false)
      ∧ ¬(s.finish.mode = .draining ∧ s.finish.drained = true)

/-- The end of an event takes nothing when nothing is due, or when the queue names one of the part's own events next (logs 1
and 2); and it keeps the region and account tables, the tick generator, the round-robin pointer, the timing settings, the
management port, the pins, what ML_DN has sent, the queue of commands, and every port's configuration. -/
def Obligations.FinishKeepsTablesTicksSettingsAndQueue : Prop :=
  ∀ s : State,
    (s.nextDue = none → s.finish = s) ∧ (s.ownEventNext = true → s.finish = s)
      ∧ s.finish.regions = s.regions ∧ s.finish.accounts = s.accounts ∧ s.finish.ticks = s.ticks
      ∧ s.finish.pointer = s.pointer ∧ s.finish.timing = s.timing ∧ s.finish.mgmt = s.mgmt ∧ s.finish.rstLow = s.rstLow
      ∧ s.finish.mlDn = s.mlDn ∧ s.finish.pending = s.pending
      ∧ ∀ p, (s.finish.port p).config = (s.port p).config ∧ (s.finish.port p).resetLow = (s.port p).resetLow

/-- The frame of every management command, a bad frame and an unknown command included, is received as that command (a SET MODE
whose target code names nothing is received as SET_MODE_PASS with that code, log 11). -/
def Obligations.FrameOfEveryCommandDecodesBack : Prop :=
  ∀ (c : Instr) (bs : List Byte), c.wf = true → encodeFrame c = some bs → decodeFrame bs = some c

/-! ### Resets -/

/-- FULL_RESET sets every table, record, queue, slot, counter and the mode to its reset value; the input pins, what has been
sent and, unless withdrawn, what is offered stay (the model's choice, logs 8 and 9). -/
def Obligations.FullResetSetsResetValues : Prop :=
  ∀ (w : Bool) (s : State), ∃ t : State, exec (.fullReset w) s = .next t
    ∧ (∀ i, t.regions.row i
        = { valid := false, base := 0, sizeCode := 0, readPorts := 0, writePorts := 0, readLevel := 0, writeLevel := 0,
            selection := Tab.const 4 (.account 0), guard := false, report := .off })
    ∧ (∀ a, t.account a
        = { params := { cls := .background, limit := 65535, clip := 65535, requestCharge := 0, unitCharge := 1, drain := 1,
                        window := 4095, spareUse := true },
            balance := 0,
            counters := { grants := 0, units := 0, overTicks := 0, urgentGrants := 0, spareGrants := 0 } })
    ∧ t.ticks = { period := 1024, count := 0, stamp := 0 } ∧ t.pointer = 3
    ∧ (∀ i, t.slot i
        = { state := .free, detached := false, port := 0, tag := 0, dir := .read, addr := 0, len := 1, account := none,
            region := none, guard := false, report := .off, issueTick := 0, received := Tab.const 16 false,
            poisoned := false, orphanTick := none, epoch := 0, age := 0, timeOrphaned := 0, due := false })
    ∧ t.timing = { responseTimeout := 64, orphanLimit := 256 }
    ∧ t.link = { state := .waitCredit, epoch := 0, advertised := 0 }
    ∧ (∀ p, t.bufCounts p = { reserve := 0, shared := 0 })
    ∧ t.chk
        = { record := { sequence := 0, kinds := Tab.const 14 false, count := 0, replaced := false, primary := none },
            pending := { check := false, quiesced := false, linkOnline := false, linkFailed := false },
            mask := { check := true, quiesced := true, linkOnline := true, linkFailed := true },
            globals := { late := 0, stale := 0, suppressed := 0 } }
    ∧ t.mode = .pass
    ∧ (∀ p, t.port p
        = { queue := [], list := [], tags := Tab.const 32 false, owedReads := 0, owedWrites := 0,
            config := { readLimit := 8, writeLimit := 8, defaultAccount := p.castLE (by decide), noRegion := .default,
                        defaultGuard := true, defaultReport := .all },
            counters := { accepted := 0, refused := 0, timedOut := 0, aborted := 0 },
            resetLow := (s.port p).resetLow,
            reqOffers := if w then [] else (s.port p).reqOffers,
            dataOffers := if w then [] else (s.port p).dataOffers,
            rsp := (s.port p).rsp })
    ∧ t.mgmt = { s.mgmt with transaction := .idle } ∧ t.rstLow = true ∧ t.mlDn = s.mlDn ∧ t.pending = s.pending

/-- R92, R142: while RST_N is low nothing on ML_UP is taken; its release sends one RESTART with epoch 0, the link is in
WAIT_CREDIT and the mode is PASS. Released after full reset with nothing else done, the machine is `State.reset`, whose pins are
high and which is offered nothing (the model's choice, log 9). -/
def Obligations.RstNReleaseSendsOneRestart : Prop :=
  (∀ s : State, s.rstLow = true →
      (∀ e n, exec (.advertise e n) s = .next s) ∧ (∀ e i x d g, exec (.readUnit e i x d g) s = .next s)
        ∧ (∀ e i o, exec (.writeDone e i o) s = .next s) ∧ exec .unknownLinkMessage s = .next s
        ∧ exec .rstNRelease s
            = .next (State.finish
                { s with rstLow := false, link := { state := .waitCredit, epoch := 0, advertised := 0 }, mode := .pass,
                         mlDn := s.mlDn ++ [.restart 0] }))
    ∧ exec .rstNRelease State.held = .next State.reset

/-- R83, R120, R125: the port reset empties the port's queue, list and tag set, zeroes its owed counts, releases all its buffer
units and detaches its slots; configuration, counters, what was sent and every other block stay. What the initiator offered is
kept or withdrawn with the row's operand (R126 expects it dropped; the operand is the model's choice, log 8). -/
def Obligations.PortResetDropsThePortsWork : Prop :=
  ∀ (p : PortId) (w : Bool) (s t : State), (s.port p).resetLow = false →
    t = State.release
          { s.modPort p (fun po =>
              { po with queue := [], list := [], tags := Tab.const 32 false, owedReads := 0, owedWrites := 0, resetLow := true
                        reqOffers := if w then [] else po.reqOffers
                        dataOffers := if w then [] else po.dataOffers })
            with slots := s.slots.mapRows (fun sl => if sl.state ≠ .free ∧ sl.port = p then { sl with detached := true } else sl) }
          p ((s.bufCounts p).reserve + (s.bufCounts p).shared) →
    exec (.portReset p w) s = .next t.finish ∧ t.bufCounts p = { reserve := 0, shared := 0 }

/-- R126: while the line is low both groups signal the initiator to hold, the port reset is not taken again and the port takes no
REQUEST and no WRITE UNIT; at the release only the line changes, and the port then takes what it can. -/
def Obligations.PortLineHoldsThePort : Prop :=
  ∀ (p : PortId) (s : State), (s.port p).resetLow = true →
    s.reqHeld p = true ∧ s.dataHeld p = true
      ∧ (∀ w, exec (.portReset p w) s = .next s)
      ∧ (∀ m, exec (.request p m) s
          = .next (s.modPort p (fun po => { po with reqOffers := po.reqOffers ++ [m] })).finish)
      ∧ (∀ u, exec (.writeUnit p u) s
          = .next (s.modPort p (fun po => { po with dataOffers := po.dataOffers ++ [u] })).finish)
      ∧ exec (.portResetRelease p) s = .next (s.modPort p (fun po => { po with resetLow := false })).finish

/-! ### Requests -/

/-- R107, R110: while any condition of R110 fails for the oldest REQUEST offered at a port, or RST_N is low (log 9), a REQUEST
offered there is not taken: it waits on Un_REQ behind the others that wait, and the group signals the initiator to hold. -/
def Obligations.RequestWaitsWhileAConditionFails : Prop :=
  ∀ (p : PortId) (m oldest : RequestMsg) (rest : List RequestMsg) (s : State),
    (s.port p).reqOffers ++ [m] = oldest :: rest →
    (s.rstLow = true ∨ s.mode = .draining ∨ s.mode = .quiesced ∨ (s.port p).resetLow = true
      ∨ 16 ≤ (s.port p).queue.length ∨ (oldest.kind = .write ∧ 16 ≤ (s.port p).list.length)) →
    let waits := s.modPort p (fun po => { po with reqOffers := oldest :: rest })
    exec (.request p m) s = .next waits.finish ∧ waits.reqHeld p = true

/-- R7, R10, R15, R18, R110: a READ, WRITE or unnamed-kind REQUEST with a free tag is classified and queued, its tag joins
the set, a write that expects data places its record, the accepted counter counts, and a refusal raises its check.
This is so when a REQUEST is offered and `m` is the oldest, and at the end of a later event for an `m` that waited (R110, R143),
when it comes next among what is due (log 2). -/
def Obligations.RequestIsClassifiedAndQueued : Prop :=
  ∀ (p : PortId) (m : RequestMsg) (rest : List RequestMsg) (s : State) (sn : Snapshot) (am : AdmissionMode),
    m.kind ≠ .fence → s.rstLow = false → (s.mode = .pass ∧ am = .pass ∨ s.mode = .regulate ∧ am = .regulate) →
    (s.port p).resetLow = false → (s.port p).queue.length < 16 →
    (m.kind = .write → (s.port p).list.length < 16) → (s.port p).tags.row m.tag = false →
    sn = classify am s.regions (s.port p).config p m →
    let taken :=
      State.modPort
        (match sn.refusal with
          | none => s
          | some k =>
            s.raise sn.report { kind := k, port := some p, tag := some m.tag, addr := some m.addr, region := sn.region,
                                account := sn.account, stamp := s.ticks.stamp })
        p (fun po =>
          { po with
            queue := po.queue ++
              [{ tag := m.tag, kind := m.kind, addr := some m.addr, len := some m.len, disposition := sn.disposition,
                 admission := am, region := sn.region, account := sn.account, guard := sn.guard, report := sn.report,
                 data := if m.kind = .write ∧ m.len.val ≠ 0 then .waitingData else .complete, held := [], age := 0,
                 urgent := false, markDue := false }]
            list := po.list ++
              (if m.kind = .write ∧ m.len.val ≠ 0 then
                [{ mode := if sn.disposition = .issue then .store else .sink, expected := m.len.val, taken := 0,
                   entry := some m.tag }]
              else [])
            tags := po.tags.setRow m.tag true
            counters := { po.counters with accepted := po.counters.accepted + 1 }
            reqOffers := rest })
    (∀ last, (s.port p).reqOffers ++ [last] = m :: rest → exec (.request p last) s = .next taken.finish)
      ∧ ((s.port p).reqOffers = m :: rest → s.ownEventNext = false → s.requestIsNext p → s.finish = taken.finish)

/-- R17: a FENCE is not classified and raises no check; it is queued without address and length, with disposition FENCE.
This is so when a REQUEST is offered and `m` is the oldest, and at the end of a later event for an `m` that waited (R110, R143),
when it comes next among what is due (log 2). -/
def Obligations.FenceIsQueuedUnclassified : Prop :=
  ∀ (p : PortId) (m : RequestMsg) (rest : List RequestMsg) (s : State) (am : AdmissionMode),
    m.kind = .fence → s.rstLow = false → (s.mode = .pass ∧ am = .pass ∨ s.mode = .regulate ∧ am = .regulate) →
    (s.port p).resetLow = false → (s.port p).queue.length < 16 → (s.port p).tags.row m.tag = false →
    let taken := s.modPort p (fun po =>
      { po with
        queue := po.queue ++
          [{ tag := m.tag, kind := .fence, addr := none, len := none, disposition := .fence, admission := am,
             region := none, account := none, guard := false, report := .all, data := .complete, held := [], age := 0,
             urgent := false, markDue := false }]
        tags := po.tags.setRow m.tag true
        counters := { po.counters with accepted := po.counters.accepted + 1 }
        reqOffers := rest })
    (∀ last, (s.port p).reqOffers ++ [last] = m :: rest → exec (.request p last) s = .next taken.finish)
      ∧ ((s.port p).reqOffers = m :: rest → s.ownEventNext = false → s.requestIsNext p → s.finish = taken.finish)

/-- R112: a REQUEST whose tag is outstanding is not accepted; DUP_TAG is raised, and a write that announces units places a
discard record.
This is so when a REQUEST is offered and `m` is the oldest, and at the end of a later event for an `m` that waited (R110, R143),
when it comes next among what is due (log 2). -/
def Obligations.DuplicateRequestIsDiscarded : Prop :=
  ∀ (p : PortId) (m : RequestMsg) (rest : List RequestMsg) (s : State),
    s.rstLow = false → (s.mode = .pass ∨ s.mode = .regulate) → (s.port p).resetLow = false →
    (s.port p).queue.length < 16 → (m.kind = .write → (s.port p).list.length < 16) → (s.port p).tags.row m.tag = true →
    let taken :=
      (s.raise .all { kind := .dupTag, port := some p, tag := some m.tag,
                      addr := if m.kind = .fence then none else some m.addr, region := none, account := none,
                      stamp := s.ticks.stamp }).modPort p (fun po =>
        { po with
          list := po.list ++
            (if m.kind = .write ∧ m.len.val ≠ 0 then
              [{ mode := .sink, expected := m.len.val, taken := 0, entry := none }] else [])
          reqOffers := rest })
    (∀ last, (s.port p).reqOffers ++ [last] = m :: rest → exec (.request p last) s = .next taken.finish)
      ∧ ((s.port p).reqOffers = m :: rest → s.ownEventNext = false → s.requestIsNext p → s.finish = taken.finish)

/-- R3: the matched region is the valid entry of lowest index whose base is the address with its low 12 + c bits cleared. -/
def Obligations.LowestMatchingRegionIsMatched : Prop :=
  ∀ (t : Tab 16 RegionEntry) (a : Addr),
    let hit := fun i : RegionId =>
      (t.row i).valid = true
        ∧ (a >>> (12 + (t.row i).sizeCode.val)) <<< (12 + (t.row i).sizeCode.val) = (t.row i).base
    (∀ i, matchedRegion t a = some i ↔ hit i ∧ ∀ j, j < i → ¬hit j) ∧ (matchedRegion t a = none ↔ ∀ i, ¬hit i)

/-- R9 to R14, R16, Table 1-3: what classification gives a READ, WRITE or unnamed-kind request. -/
def Obligations.ClassificationFollowsTheChecks : Prop :=
  ∀ (am : AdmissionMode) (t : Tab 16 RegionEntry) (cfg : PortConfig) (p : PortId) (m : RequestMsg), m.kind ≠ .fence →
    let bad := m.addr.toNat % 32 ≠ 0 ∨ m.len.val = 0 ∨ 16 < m.len.val ∨ 2 ^ 40 < m.addr.toNat + 32 * m.len.val
      ∨ m.kind = .unnamed
    (bad → classify am t cfg p m
        = { disposition := .refused, refusal := some .malformed, region := none, account := none, guard := false,
            report := .all })
      ∧ (¬bad → am = .pass → classify am t cfg p m
          = { disposition := .issue, refusal := none, region := none, account := none, guard := true, report := .all })
      ∧ (¬bad → am = .regulate → matchedRegion t m.addr = none → cfg.noRegion = .refuse → classify am t cfg p m
          = { disposition := .refused, refusal := some .noRegion, region := none, account := none, guard := false,
              report := .all })
      ∧ (¬bad → am = .regulate → matchedRegion t m.addr = none → cfg.noRegion = .default → classify am t cfg p m
          = { disposition := .issue, refusal := none, region := none, account := some cfg.defaultAccount,
              guard := cfg.defaultGuard, report := cfg.defaultReport })
      ∧ ∀ i, ¬bad → am = .regulate → matchedRegion t m.addr = some i →
          let e := t.row i
          let allowed := if m.kind = .write then e.writePorts.getLsbD p.val = true ∧ m.level ≤ e.writeLevel
            else e.readPorts.getLsbD p.val = true ∧ m.level ≤ e.readLevel
          let beyond := e.base.toNat + 2 ^ (12 + e.sizeCode.val) - 1 < m.addr.toNat + 32 * m.len.val - 1
          let account := match e.selection.row p with | .account a => a | .portDefault => cfg.defaultAccount
          (beyond → classify am t cfg p m
              = { disposition := .refused, refusal := some .boundary, region := some i, account := some account,
                  guard := e.guard, report := e.report })
            ∧ (¬beyond → ¬allowed → classify am t cfg p m
              = { disposition := .refused, refusal := some .protection, region := some i, account := some account,
                  guard := e.guard, report := e.report })
            ∧ (¬beyond → allowed → classify am t cfg p m
              = { disposition := .issue, refusal := none, region := some i, account := some account, guard := e.guard,
                  report := e.report })

/-! ### Write units and the write data buffer -/

/-- R116: a WRITE UNIT offered at an empty data order list is discarded with STRAY_DATA, and nothing else changes.
This is so when a unit is offered and `u` is the oldest, and at the end of a later event for a `u` that waited, when it comes
next among what is due (log 2). -/
def Obligations.StrayUnitIsDiscarded : Prop :=
  ∀ (p : PortId) (u : WriteUnitMsg) (us : List WriteUnitMsg) (s : State),
    s.rstLow = false → (s.port p).resetLow = false → (s.port p).list = [] →
    let taken :=
      (s.raise .all { kind := .strayData, port := some p, tag := none, addr := none, region := none, account := none,
                      stamp := s.ticks.stamp }).modPort p (fun po => { po with dataOffers := us })
    (∀ last, (s.port p).dataOffers ++ [last] = u :: us → exec (.writeUnit p last) s = .next taken.finish)
      ∧ ((s.port p).dataOffers = u :: us → s.ownEventNext = false → s.unitIsNext p → s.finish = taken.finish)

/-- R115, R119: a unit for a SINK record is dropped; a good unit for a STORE record takes a reserve unit, else a shared unit,
else it waits on Un_WDAT, which signals the initiator to hold; with its last unit the record leaves the list and its entry's data
is complete. A unit is taken so when one is offered and `u` is the oldest, and at the end of a later event for a `u` that waited,
when it comes next among what is due (log 2). -/
def Obligations.UnitGoesToTheOldestRecord : Prop :=
  ∀ (p : PortId) (u : WriteUnitMsg) (us : List WriteUnitMsg) (s : State) (r : ListRecord) (rs : List ListRecord),
    s.rstLow = false → (s.port p).resetLow = false → (s.port p).list = r :: rs →
    let last := r.expected ≤ r.taken + 1
    let shared := (s.bufCounts 0).shared + (s.bufCounts 1).shared + (s.bufCounts 2).shared + (s.bufCounts 3).shared
    let takenAs := fun taken : State =>
      (∀ newest, (s.port p).dataOffers ++ [newest] = u :: us → exec (.writeUnit p newest) s = .next taken.finish)
        ∧ ((s.port p).dataOffers = u :: us → s.ownEventNext = false → s.unitIsNext p → s.finish = taken.finish)
    (r.mode = .sink → takenAs
        (s.modPort p (fun po =>
          { po with
            dataOffers := us
            list := if last then rs else { r with taken := r.taken + 1 } :: rs
            queue := po.queue.map (fun e => if last ∧ r.entry = some e.tag then { e with data := .complete } else e) })))
      ∧ (r.mode = .store → u.bad = false → (s.bufCounts p).reserve < 16 ∨ shared < 64 → takenAs
        ((s.setBuf p (if (s.bufCounts p).reserve < 16
            then { s.bufCounts p with reserve := (s.bufCounts p).reserve + 1 }
            else { s.bufCounts p with shared := (s.bufCounts p).shared + 1 })).modPort p (fun po =>
          { po with
            dataOffers := us
            list := if last then rs else { r with taken := r.taken + 1 } :: rs
            queue := po.queue.map (fun e =>
              if r.entry = some e.tag then
                { e with held := e.held ++ [{ data := u.data, mask := u.mask }]
                         data := if last then .complete else e.data }
              else e) })))
      ∧ (r.mode = .store → u.bad = false → 16 ≤ (s.bufCounts p).reserve → 64 ≤ shared →
        ∀ newest, (s.port p).dataOffers ++ [newest] = u :: us →
          let waits := s.modPort p (fun po => { po with dataOffers := u :: us })
          exec (.writeUnit p newest) s = .next waits.finish ∧ waits.dataHeld p = true)

/-- R117: a bad unit for a STORE record marks the write DATAERR, releases its units, is not stored, turns its record to SINK
and raises DATA_PARITY.
This is so when a unit is offered and `u` is the oldest, and at the end of a later event for a `u` that waited, when it comes
next among what is due (log 2). -/
def Obligations.ParityErrorMarksDataerr : Prop :=
  ∀ (p : PortId) (u : WriteUnitMsg) (us : List WriteUnitMsg) (s : State) (r : ListRecord) (rs : List ListRecord)
    (before behind : List Entry) (e : Entry),
    s.rstLow = false → (s.port p).resetLow = false → (s.port p).list = r :: rs →
    r.mode = .store → u.bad = true → (s.port p).queue = before ++ e :: behind → r.entry = some e.tag →
    (∀ x ∈ before ++ behind, x.tag ≠ e.tag) →
    let taken := State.release
      ((s.raise e.report { kind := .dataParity, port := some p, tag := some e.tag, addr := e.addr, region := e.region,
                           account := e.account, stamp := s.ticks.stamp }).modPort p (fun po =>
        { po with
          dataOffers := us
          queue := before ++
            { e with disposition := .dataerr, held := []
                     data := if r.expected ≤ r.taken + 1 then .complete else e.data } :: behind
          list := if r.expected ≤ r.taken + 1 then rs else { r with taken := r.taken + 1, mode := .sink } :: rs }))
      p e.held.length
    (∀ last, (s.port p).dataOffers ++ [last] = u :: us → exec (.writeUnit p last) s = .next taken.finish)
      ∧ ((s.port p).dataOffers = u :: us → s.ownEventNext = false → s.unitIsNext p → s.finish = taken.finish)

/-- R120: a release lowers the port's shared count first and the reserve count by the rest; as part of the same event the unit
that waits at the releasing port, then those at the other ports in the order U0 to U3, are offered again, and each that can be
given a buffer unit is taken. So nothing else changes when no unit waits, and a unit that alone waits is taken when it can be. -/
def Obligations.ReleaseEmptiesSharedFirst : Prop :=
  ∀ (s : State) (p : PortId) (n : Nat),
    let low := s.setBuf p { shared := (s.bufCounts p).shared - min n (s.bufCounts p).shared
                            reserve := (s.bufCounts p).reserve - (n - min n (s.bufCounts p).shared) }
    let room := fun (t : State) (q : PortId) =>
      (t.bufCounts q).reserve < 16
        ∨ (t.bufCounts 0).shared + (t.bufCounts 1).shared + (t.bufCounts 2).shared + (t.bufCounts 3).shared < 64
    let offered := fun (t : State) (q : PortId) =>
      match (t.port q).dataOffers, (t.port q).list with
      | u :: us, r :: rs =>
        if s.rstLow = false ∧ (s.port q).resetLow = false ∧ r.mode = .store ∧ u.bad = false ∧ room t q then t.stored q u us r rs
        else t
      | _, _ => t
    ((∀ q, (s.port q).dataOffers = []) → s.release p n = low)
      ∧ (∀ q u us r rs, 0 < n → s.rstLow = false → (s.port q).resetLow = false → (s.port q).dataOffers = u :: us →
          (s.port q).list = r :: rs → r.mode = .store → u.bad = false → room low q →
          (∀ q', q' ≠ q → (s.port q').dataOffers = []) → s.release p n = low.stored q u us r rs)
      ∧ ∀ q₁ q₂ q₃, 0 < n → [0, 1, 2, 3].filter (fun q => decide (q ≠ p)) = [q₁, q₂, q₃] →
          s.release p n = offered (offered (offered (offered low p) q₁) q₂) q₃

/-! ### The tick -/

/-- R28 to R31, R34, R35, R79 to R82: below the tick period only the count moves; at the period the count starts again, the
stamp advances, every account drains, every entry and every slot in use ages, and heads and slots are compared. The model's
choices: a TICK makes one tick however many cycles it carries, and what the comparisons find stands in `markDue` and `due`
(log 7); the increase comes before the comparison also with a response timeout of 1 (log 18). -/
def Obligations.TickDrainsAgesAndCompares : Prop :=
  ∀ (k : Nat) (s : State), s.rstLow = false →
    (s.ticks.count + k < s.ticks.period →
        exec (.tick k) s = .next { s with ticks := { s.ticks with count := s.ticks.count + k } })
      ∧ (s.ticks.period ≤ s.ticks.count + k →
        let aged := fun e : Entry => { e with age := if e.age < 4095 then e.age + 1 else e.age }
        let marked := fun e : Entry =>
          decide (e.disposition = .issue) && !e.urgent &&
            match e.account with
            | none => false
            | some a => decide ((s.account a).params.cls = .realtime) && decide ((s.account a).params.window ≤ e.age)
        exec (.tick k) s
          = .next (State.finish
              { s with
                ticks := { s.ticks with count := 0, stamp := s.ticks.stamp + 1 }
                accounts := s.accounts.mapRows (fun a =>
                  { a with balance := a.balance - a.params.drain
                           counters := if a.params.limit < a.balance - a.params.drain
                             then { a.counters with overTicks := a.counters.overTicks + 1 } else a.counters })
                ports := s.ports.mapRows (fun po =>
                  { po with queue :=
                      match po.queue with
                      | [] => []
                      | e :: rest =>
                        { aged e with markDue := marked (aged e) } :: rest.map (fun e => { aged e with markDue := false }) })
                slots := s.slots.mapRows (fun sl =>
                  if sl.state = .free then sl
                  else if sl.state = .orphaned then
                    { sl with age := sl.age + 1, timeOrphaned := sl.timeOrphaned + 1
                              due := decide (s.timing.orphanLimit ≤ sl.timeOrphaned + 1) }
                  else
                    { sl with age := sl.age + 1
                              due := decide (s.timing.responseTimeout ≠ 0 ∧ s.timing.responseTimeout ≤ sl.age + 1) }) }))

/-- R31: at each tick each account's balance falls by its drain, not below 0, and the over-ticks counter counts when the account
is over after the drain; its parameters and other counters stay. One TICK makes one tick, however many cycles beyond the period
it carries (the model's choice, log 7). -/
def Obligations.EveryAccountDrainsAtATick : Prop :=
  ∀ (k : Nat) (s : State), s.rstLow = false → s.ticks.period ≤ s.ticks.count + k →
    ∃ t : State, exec (.tick k) s = .next t ∧ ∀ a : AccountId,
      (t.account a).balance = max 0 ((s.account a).balance - (s.account a).params.drain)
        ∧ (t.account a).params = (s.account a).params
        ∧ (t.account a).counters
            = if (s.account a).params.limit < (t.account a).balance
              then { (s.account a).counters with overTicks := (s.account a).counters.overTicks + 1 }
              else (s.account a).counters

/-- R35: a head whose mark the tick found due receives it, and nothing else changes. -/
def Obligations.UrgentMarkIsGivenToTheHead : Prop :=
  ∀ (p : PortId) (s : State) (e : Entry) (rest : List Entry), (s.port p).queue = e :: rest → e.markDue = true →
    exec (.urgentMark p) s
      = .next (s.modPort p (fun po => { po with queue := { e with urgent := true, markDue := false } :: rest })).finish

/-- R80: a slot that owes an answer and is due sends DONE TIMEOUT, lowers the owed count of its kind, counts, raises TIMEOUT
and becomes ORPHANED with the tick's stamp. -/
def Obligations.ResponseTimeoutOrphansTheSlot : Prop :=
  ∀ (i : SlotId) (s : State) (sl : Slot), s.slot i = sl → sl.due = true → sl.detached = false →
    (sl.state = .issued ∨ sl.state = .returning) →
    exec (.responseTimeout i) s
      = .next (State.finish
          (((s.modPort sl.port (fun po =>
              { po.answers sl.tag .timeout with
                owedReads := if sl.dir = .read then po.owedReads - 1 else po.owedReads
                owedWrites := if sl.dir = .write then po.owedWrites - 1 else po.owedWrites
                counters := { po.counters with timedOut := po.counters.timedOut + 1 } })).raise sl.report
              (captureOf .timeout sl s.ticks.stamp)).setSlot i
            { sl with state := .orphaned, orphanTick := some s.ticks.stamp, timeOrphaned := 0, due := false }))

/-- R81: a detached slot that is due becomes ORPHANED with the tick's stamp, and nothing else changes. -/
def Obligations.DetachedTimeoutIsSilent : Prop :=
  ∀ (i : SlotId) (s : State) (sl : Slot), s.slot i = sl → sl.due = true → sl.detached = true →
    (sl.state = .issued ∨ sl.state = .returning) →
    exec (.detachedTimeout i) s
      = .next (s.setSlot i
          { sl with state := .orphaned, orphanTick := some s.ticks.stamp, timeOrphaned := 0, due := false }).finish

/-- R82, R98, R100: an ORPHANED slot that is due fails the link: the epoch advances, the credits become 0, every slot is freed by
R84, LINK_FAILED is raised with its alert cause, and no RESTART is sent; what that makes due is part of the same event (R99). -/
def Obligations.OrphanLimitExpiryFailsTheLink : Prop :=
  ∀ (i : SlotId) (s : State), (s.slot i).due = true → (s.slot i).state = .orphaned →
    ∃ t : State, exec (.orphanLimitExpiry i) s = .next t.settle
      ∧ t = { s.freeAllSlots with
              link := { state := .failed, epoch := s.link.epoch + 1, advertised := 0 }
              chk := { s.chk.raise .all (plainCapture .linkFailed s.ticks.stamp) with
                        pending := { s.chk.pending with check := true, linkFailed := true } } }
      ∧ t.mlDn = s.mlDn

/-- R68, R84: the freeing of every slot answers each owed slot DONE ABORTED on its port, lowest index first, with the owed
counts, tags and aborted counters following, and leaves every slot at its reset values. -/
def Obligations.FreeingEverySlotAnswersTheOwed : Prop :=
  ∀ (s : State) (p : PortId),
    let owed := allSlots.filter (fun i => (s.slot i).owes && (s.slot i).port == p)
    let t := s.freeAllSlots
    (∀ i, t.slot i = Slot.reset)
      ∧ (t.port p).rsp = (s.port p).rsp ++ owed.map (fun i => .done (s.slot i).tag .aborted)
      ∧ (t.port p).owedReads = (s.port p).owedReads - (owed.filter (fun i => (s.slot i).dir == .read)).length
      ∧ (t.port p).owedWrites = (s.port p).owedWrites - (owed.filter (fun i => (s.slot i).dir == .write)).length
      ∧ (∀ tag, (t.port p).tags.row tag = ((s.port p).tags.row tag && !(owed.any (fun i => (s.slot i).tag == tag))))
      ∧ (t.port p).counters = { (s.port p).counters with
          aborted := (s.port p).counters.aborted + BitVec.ofNat 32 owed.length }
      ∧ (t.port p).queue = (s.port p).queue ∧ (t.port p).list = (s.port p).list
      ∧ t.chk = s.chk ∧ t.buffer = s.buffer ∧ t.accounts = s.accounts ∧ t.mlDn = s.mlDn ∧ t.mode = s.mode ∧ t.link = s.link

/-! ### The issue arbiter -/

/-- R49 to R55, R76: a port has an eligible head standing in a tier exactly when its head is an ISSUE entry, a credit is
available, the owed count is below the limit, a write's data is complete, the guard is clear, and the tier is its own. A marked
head stands in URGENT whether or not its account is over (the model follows R55, log 6). -/
def Obligations.HeadIsEligibleByFiveConditions : Prop :=
  ∀ (s : State) (p : PortId) (t : Tier),
    s.eligibleTier p = some t ↔
      ∃ e rest, (s.port p).queue = e :: rest ∧ e.disposition = .issue
        ∧ s.link.state = .online ∧ 1 ≤ s.link.advertised - s.slotsInUse
        ∧ (if e.kind = .write then (s.port p).owedWrites < (s.port p).config.writeLimit
            else (s.port p).owedReads < (s.port p).config.readLimit)
        ∧ (e.kind = .write → e.data = .complete)
        ∧ (e.guard = true → ∀ i, (s.slot i).state ≠ .free →
            (s.slot i).addr.toNat ≤ e.first + 32 * e.units - 1 →
            e.first ≤ (s.slot i).addr.toNat + 32 * (s.slot i).len - 1 →
            (s.slot i).dir = .read ∧ e.kind ≠ .write)
        ∧ (match t with
            | .urgent => e.urgent = true
            | .realtime => e.urgent = false ∧ ∃ a, e.account = some a ∧ (s.account a).params.cls = .realtime
                ∧ (s.account a).balance ≤ (s.account a).params.limit
            | .ordinary => e.urgent = false ∧ (e.account = none ∨ ∃ a, e.account = some a
                ∧ (s.account a).params.cls = .budgeted ∧ (s.account a).balance ≤ (s.account a).params.limit)
            | .background => e.urgent = false ∧ ∃ a, e.account = some a ∧ (s.account a).params.cls = .background
                ∧ (s.account a).balance ≤ (s.account a).params.limit
            | .spare => e.urgent = false ∧ ∃ a, e.account = some a
                ∧ (s.account a).params.limit < (s.account a).balance ∧ (s.account a).params.spareUse = true)

/-- R56, R57: the arbitration grants, of the ports whose heads stand in the highest-ranked tier that any eligible head stands
in, the first one reached from the port after the last granted one; none when no head is eligible. -/
def Obligations.ArbitrationPicksHighestTierRoundRobin : Prop :=
  ∀ s : State,
    (∀ t p, s.winner = some (t, p) ↔
      s.eligibleTier p = some t
        ∧ (∀ q u, s.eligibleTier q = some u → allTiers.idxOf t ≤ allTiers.idxOf u)
        ∧ ∀ q, s.eligibleTier q = some t → (p - (s.pointer + 1)).val ≤ (q - (s.pointer + 1)).val)
      ∧ (s.winner = none ↔ ∀ p, s.eligibleTier p = none)

/-- R25, R27, R58, R59, R67, R88, R167: the grant, its parts as one event; with no eligible head nothing is granted. The ISSUE's
length field holds the length less 1, and the fields of RESTART and ISSUE have the widths and codes of Table 10-4. -/
def Obligations.GrantIssuesTheWinner : Prop :=
  (∀ (s : State) (t : Tier) (p : PortId) (e : Entry) (rest : List Entry) (i : SlotId),
      s.winner = some (t, p) → (s.port p).queue = e :: rest → (s.slot i).state = .free →
      (∀ j, j < i → (s.slot j).state ≠ .free) →
      let dir := if e.kind = .write then Dir.write else Dir.read
      exec .grant s
        = .next (State.finish (State.release
            { s with
              slots := s.slots.setRow i
                { state := .issued, detached := false, port := p, tag := e.tag, dir := dir, addr := e.addr.getD 0,
                  len := e.units, account := e.account, region := e.region, guard := e.guard, report := e.report,
                  issueTick := s.ticks.stamp, received := Tab.const 16 false, poisoned := false, orphanTick := none,
                  epoch := s.link.epoch, age := 0, timeOrphaned := 0, due := false }
              mlDn := s.mlDn ++
                [.issue s.link.epoch i dir (e.addr.getD 0) (BitVec.ofNat 4 (e.units - 1))
                  (if e.kind = .write then some e.held else none)]
              ports := s.ports.modRow p (fun po =>
                { po with
                  queue := rest
                  owedReads := if e.kind = .write then po.owedReads else po.owedReads + 1
                  owedWrites := if e.kind = .write then po.owedWrites + 1 else po.owedWrites })
              accounts :=
                match e.account with
                | none => s.accounts
                | some a => s.accounts.modRow a (fun r =>
                    { r with
                      balance := min r.params.clip (r.balance + (r.params.requestCharge + e.units * r.params.unitCharge))
                      counters := { r.counters with
                        grants := r.counters.grants + 1
                        units := r.counters.units + BitVec.ofNat 32 e.units
                        urgentGrants := if t = .urgent then r.counters.urgentGrants + 1 else r.counters.urgentGrants
                        spareGrants := if t = .spare then r.counters.spareGrants + 1 else r.counters.spareGrants } })
              pointer := p } p e.held.length)))
    ∧ (∀ s : State, s.winner = none → exec .grant s = .next s.finish)
    ∧ (∀ epoch : Epoch, (DnMsg.restart epoch).fields = [⟨1, 0⟩, ⟨2, epoch.val⟩])
    ∧ ∀ (epoch : Epoch) (i : SlotId) (dir : Dir) (addr : Addr) (l : BitVec 4) (units : Option (List BufUnit)),
        (DnMsg.issue epoch i dir addr l units).fields
          = [⟨1, 1⟩, ⟨2, epoch.val⟩, ⟨5, i.val⟩, ⟨1, if dir = .read then 0 else 1⟩, ⟨40, addr.toNat⟩, ⟨4, l.toNat⟩]
            ++ (units.getD []).flatMap (fun u =>
              ⟨256, u.data.toNat⟩ :: (u.mask.elim [⟨1, 0⟩] (fun m => [⟨1, 1⟩, ⟨32, m.toNat⟩])))

/-- R59, R66: wherever the slots in use do not outnumber the credits, and these are at most 32, an eligible head finds a FREE
slot, and the one taken is the lowest. -/
def Obligations.EligibleHeadFindsAFreeSlot : Prop :=
  ∀ (s : State) (p : PortId) (t : Tier), LinkSound s → s.eligibleTier p = some t →
    ∃ i, s.lowestFree = some i ∧ (s.slot i).state = .free ∧ ∀ j, j < i → (s.slot j).state ≠ .free

/-! ### Retirement and the drain -/

/-- R44 to R48, Table 3-1: a head retires by its case with the DONE of that case, its tag and entry leave, its units are
released, and it counts in the counter its case names: REFUSED and DATAERR with their data complete, in every link state; a FENCE
with OK when its port has no slot in use and the link is not FAILED; while the link is FAILED a FENCE, and an ISSUE entry whose
data is complete, with ABORTED. -/
def Obligations.HeadsRetireByTheirCase : Prop :=
  ∀ (p : PortId) (s : State) (e : Entry) (rest : List Entry), (s.port p).queue = e :: rest →
    (e.disposition = .refused → e.data = .complete → exec (.retireRefused p) s
        = .next (State.finish ((s.modPort p (fun po =>
            { { po with queue := rest }.answers e.tag .refused with
              counters := { po.counters with refused := po.counters.refused + 1 } })).release p e.held.length)))
      ∧ (e.disposition = .dataerr → e.data = .complete → exec (.retireDataerr p) s
        = .next (State.finish ((s.modPort p (fun po =>
            { po with queue := rest }.answers e.tag .dataerr)).release p e.held.length)))
      ∧ (e.disposition = .fence → s.link.state ≠ .failed → (∀ i, (s.slot i).state ≠ .free → (s.slot i).port ≠ p) →
        exec (.retireFence p) s
          = .next (State.finish ((s.modPort p (fun po =>
              { po with queue := rest }.answers e.tag .ok)).release p e.held.length)))
      ∧ ((e.disposition = .fence ∨ e.disposition = .issue) → s.link.state = .failed → e.data = .complete →
        exec (.failFast p) s
          = .next (State.finish ((s.modPort p (fun po =>
              { { po with queue := rest }.answers e.tag .aborted with
                counters := { po.counters with aborted := po.counters.aborted + 1 } })).release p e.held.length)))

/-- R146: the drain completes exactly when, in DRAINING, every queue and list is empty and every slot is FREE; the mode becomes
QUIESCED and the cause QUIESCED is raised. -/
def Obligations.DrainCompletesWhenAllIsEmpty : Prop :=
  ∀ s : State,
    let holds := s.mode = .draining ∧ (∀ p, (s.port p).queue = [] ∧ (s.port p).list = []) ∧ ∀ i, (s.slot i).state = .free
    (holds → exec .drainComplete s
        = .next (State.finish { s with mode := .quiesced
                                       chk := { s.chk with pending := { s.chk.pending with quiesced := true } } }))
      ∧ (¬holds → exec .drainComplete s = .next s.finish)

/-! ### The memory link -/

/-- R94, R95: an ADVERTISE with the current epoch brings a waiting link ONLINE with 1 to 32 credits and raises LINK_ONLINE; with
other credits, or in another link state, it is discarded with LINK_PROTOCOL. -/
def Obligations.AdvertiseBringsTheLinkOnline : Prop :=
  ∀ (n : Fin 64) (s : State), s.rstLow = false →
    (s.link.state = .waitCredit → 1 ≤ n.val → n.val ≤ 32 → exec (.advertise s.link.epoch n) s
        = .next { s with link := { state := .online, epoch := s.link.epoch, advertised := n.val }
                         chk := { s.chk with pending := { s.chk.pending with linkOnline := true } } })
      ∧ (s.link.state ≠ .waitCredit ∨ n.val = 0 ∨ 32 < n.val → exec (.advertise s.link.epoch n) s
        = .next (s.raise .all (plainCapture .linkProtocol s.ticks.stamp)))

/-- R90: a message of a known kind whose epoch is not the current one only counts as stale. -/
def Obligations.StaleMessageOnlyCounts : Prop :=
  ∀ (e : Epoch) (s : State), s.rstLow = false → e ≠ s.link.epoch →
    let t := { s with chk := { s.chk with globals := { s.chk.globals with stale := s.chk.globals.stale + 1 } } }
    (∀ n, exec (.advertise e n) s = .next t) ∧ (∀ i x d g, exec (.readUnit e i x d g) s = .next t)
      ∧ ∀ i o, exec (.writeDone e i o) s = .next t

/-- R69, R89, R167: an unknown message (message kind code 3), a code that names nothing, and a reply that does not fit its slot are
discarded with LINK_PROTOCOL. -/
def Obligations.MisfitMessageIsDiscarded : Prop :=
  ∀ s : State, s.rstLow = false →
    let t := s.raise .all (plainCapture .linkProtocol s.ticks.stamp)
    exec .unknownLinkMessage s = .next t
      ∧ (∀ i x d, exec (.readUnit s.link.epoch i x d .unnamed) s = .next t)
      ∧ (∀ i, exec (.writeDone s.link.epoch i .unnamed) s = .next t)
      ∧ (∀ e n i x d g o, linkMessageOf 3 e n i x d g o = .unknownLinkMessage
          ∧ linkMessageOf 0 e n i x d g o = .advertise e n
          ∧ linkMessageOf 1 e n i x d 0 o = .readUnit e i x d .clean
          ∧ linkMessageOf 1 e n i x d 1 o = .readUnit e i x d .corrected
          ∧ linkMessageOf 1 e n i x d 2 o = .readUnit e i x d .poisoned
          ∧ linkMessageOf 1 e n i x d 3 o = .readUnit e i x d .unnamed
          ∧ linkMessageOf 2 e n i x d g 0 = .writeDone e i .ok ∧ linkMessageOf 2 e n i x d g 1 = .writeDone e i .failed
          ∧ linkMessageOf 2 e n i x d g 2 = .writeDone e i .unnamed ∧ linkMessageOf 2 e n i x d g 3 = .writeDone e i .unnamed)
      ∧ (∀ i x d g, g ≠ .unnamed →
          ((s.slot i).state = .free ∨ (s.slot i).dir = .write ∨ (s.slot i).len ≤ x.val ∨ (s.slot i).received.row x = true) →
          exec (.readUnit s.link.epoch i x d g) s = .next t.finish)
      ∧ ∀ i o, o ≠ .unnamed → ((s.slot i).state = .free ∨ (s.slot i).dir = .read) →
          exec (.writeDone s.link.epoch i o) s = .next t.finish

/-- R70, R71: a READ UNIT that fits a slot that owes an answer and is not the last is forwarded, CORRECTED as CLEAN with
MEM_CORRECTED raised, POISONED as POISONED and remembered; the slot is RETURNING. -/
def Obligations.ReadUnitIsForwarded : Prop :=
  ∀ (i : SlotId) (x : UnitIndex) (d : UnitData) (g : Integrity) (s : State) (sl : Slot),
    s.rstLow = false → g ≠ .unnamed → s.slot i = sl → (sl.state = .issued ∨ sl.state = .returning) → sl.detached = false →
    sl.dir = .read → x.val < sl.len → sl.received.row x = false → sl.received.toList.count true + 1 ≠ sl.len →
    let sent := s.modPort sl.port (fun po =>
      { po with rsp := po.rsp ++ [.readUnit sl.tag x d (decide (g = .poisoned))] })
    exec (.readUnit s.link.epoch i x d g) s
      = .next (State.finish
          ((if g = .corrected then sent.raise sl.report (captureOf .memCorrected sl s.ticks.stamp) else sent).setSlot i
            { sl with state := .returning, received := sl.received.setRow x true
                      poisoned := sl.poisoned || decide (g = .poisoned) }))

/-- R70 to R72: the unit that completes a read is forwarded and followed by its DONE, OK, or MEMERR with MEM_POISONED when a unit
of it was poisoned; the owed count falls and the slot is freed. -/
def Obligations.LastReadUnitAnswersTheRead : Prop :=
  ∀ (i : SlotId) (x : UnitIndex) (d : UnitData) (g : Integrity) (s : State) (sl : Slot),
    s.rstLow = false → g ≠ .unnamed → s.slot i = sl → (sl.state = .issued ∨ sl.state = .returning) → sl.detached = false →
    sl.dir = .read → x.val < sl.len → sl.received.row x = false → sl.received.toList.count true + 1 = sl.len →
    let bad := sl.poisoned || decide (g = .poisoned)
    let sent := s.modPort sl.port (fun po =>
      { po with
        rsp := po.rsp ++ [.readUnit sl.tag x d (decide (g = .poisoned)), .done sl.tag (if bad then .memerr else .ok)]
        tags := po.tags.setRow sl.tag false
        owedReads := po.owedReads - 1 })
    let one := if g = .corrected then sent.raise sl.report (captureOf .memCorrected sl s.ticks.stamp) else sent
    let two := if bad then one.raise sl.report (captureOf .memPoisoned sl s.ticks.stamp) else one
    exec (.readUnit s.link.epoch i x d g) s = .next (two.setSlot i Slot.reset).finish

/-- R73: a WRITE DONE that fits an ISSUED write that is not detached answers it, MEMERR with MEM_WRITE_FAILED when memory failed
it; the owed count falls and the slot is freed. -/
def Obligations.WriteDoneAnswersTheWrite : Prop :=
  ∀ (i : SlotId) (o : WriteOutcome) (s : State) (sl : Slot),
    s.rstLow = false → o ≠ .unnamed → s.slot i = sl → (sl.state = .issued ∨ sl.state = .returning) → sl.detached = false →
    sl.dir = .write →
    let sent := s.modPort sl.port (fun po =>
      { po.answers sl.tag (if o = .failed then .memerr else .ok) with owedWrites := po.owedWrites - 1 })
    exec (.writeDone s.link.epoch i o) s
      = .next (State.setSlot
          (if o = .failed then sent.raise sl.report (captureOf .memWriteFailed sl s.ticks.stamp) else sent) i Slot.reset).finish

/-- R74: replies to an ORPHANED slot are discarded; the last one frees it and counts as late, with LATE raised unless the slot is
detached. -/
def Obligations.RepliesToAnOrphanAreDiscarded : Prop :=
  ∀ (i : SlotId) (s : State) (sl : Slot), s.rstLow = false → s.slot i = sl → sl.state = .orphaned →
    let freed := { s.setSlot i Slot.reset with
      chk := { s.chk with globals := { s.chk.globals with late := s.chk.globals.late + 1 } } }
    let gone := if sl.detached then freed else freed.raise .all (captureOf .late sl s.ticks.stamp)
    (∀ x d g, g ≠ .unnamed → sl.dir = .read → x.val < sl.len → sl.received.row x = false →
        (sl.received.toList.count true + 1 ≠ sl.len → exec (.readUnit s.link.epoch i x d g) s
            = .next (s.setSlot i { sl with received := sl.received.setRow x true }).finish)
          ∧ (sl.received.toList.count true + 1 = sl.len → exec (.readUnit s.link.epoch i x d g) s = .next gone.finish))
      ∧ ∀ o, o ≠ .unnamed → sl.dir = .write → exec (.writeDone s.link.epoch i o) s = .next gone.finish

/-- R75: replies to a detached slot that is ISSUED or RETURNING are discarded without a check; the last one frees it. -/
def Obligations.RepliesToADetachedSlotAreDiscarded : Prop :=
  ∀ (i : SlotId) (s : State) (sl : Slot), s.rstLow = false → s.slot i = sl → (sl.state = .issued ∨ sl.state = .returning) →
    sl.detached = true →
    (∀ x d g, g ≠ .unnamed → sl.dir = .read → x.val < sl.len → sl.received.row x = false →
        (sl.received.toList.count true + 1 ≠ sl.len → exec (.readUnit s.link.epoch i x d g) s
            = .next (s.setSlot i { sl with state := .returning, received := sl.received.setRow x true }).finish)
          ∧ (sl.received.toList.count true + 1 = sl.len → exec (.readUnit s.link.epoch i x d g) s
            = .next (s.setSlot i Slot.reset).finish))
      ∧ ∀ o, o ≠ .unnamed → sl.dir = .write → exec (.writeDone s.link.epoch i o) s = .next (s.setSlot i Slot.reset).finish

/-! ### The management port: transactions and reads -/

/-- R152, R155, R156, R164: a transaction begins with nothing received at a fall of CS_N while RST_N is high and ends at its rise;
SDO is released while CS_N is high; it carried filler but for the response, of which only the bytes clocked were sent (`sdo` is
the model's record, log 12). A frame received with no transaction begun, in one already answered, or after other bytes than its
own is not taken and changes nothing (logs 3 and 12). -/
def Obligations.TransactionFollowsChipSelect : Prop :=
  (∀ s : State, s.mgmt.csLow = false →
      exec .csNFall s
        = .next { s with mgmt := { s.mgmt with csLow := true, transaction := if s.rstLow then .idle else .begun [] } })
    ∧ (∀ (n : Nat) (s : State) (received : List Byte), s.mgmt.csLow = true → s.mgmt.transaction = .begun received →
      exec (.csNRise n) s
        = .next { s with mgmt := { csLow := false, transaction := .idle, sdo := List.replicate n 0xFF } })
    ∧ (∀ (n : Nat) (s : State) (c r : List Byte), s.mgmt.csLow = true → s.mgmt.transaction = .answered c r →
      ∃ t : State, exec (.csNRise n) s = .next t
        ∧ t = { s with mgmt := { csLow := false, transaction := .idle, sdo := t.mgmt.sdo } }
        ∧ t.mgmt.sdo.length = n
        ∧ ∀ k, k < n → t.mgmt.sdo.getD k 0
            = if k < c.length + 2 then 0xFF else r.getD (k - (c.length + 2)) 0xFF)
    ∧ (∀ (n : Nat) (s : State), s.mgmt.csLow = true → s.mgmt.transaction = .idle →
      exec (.csNRise n) s = .next { s with mgmt := { s.mgmt with csLow := false } })
    ∧ (∀ s : State, s.sdoReleased = true ↔ s.mgmt.csLow = false)
    ∧ ∀ (c : Instr) (s : State), (encodeFrame c).isSome = true → ¬s.awaits c → exec c s = .next s

/-- R154: a frame whose check does not match is answered BAD_FRAME, a code that names no command UNKNOWN_COMMAND, both with an
empty payload; nothing outside the management port changes. -/
def Obligations.FrameErrorsChangeNothing : Prop :=
  ∀ s : State,
    (∀ code index payload check, (Instr.badFrame code index payload check).wf = true →
        s.awaits (.badFrame code index payload check) →
        exec (.badFrame code index payload check) s = .next (s.answered (.badFrame code index payload check) .badFrame []))
      ∧ ∀ code index, (Instr.unknownCommand code index).wf = true → s.awaits (.unknownCommand code index) →
        exec (.unknownCommand code index) s = .next (s.answered (.unknownCommand code index) .unknownCommand [])

/-- R134, R158, R159, R161, R165, R166: the reads that name no record are answered OK with the values as they stand, whatever
the index, and change nothing else; the bytes are those of Table 10-3, most significant first. -/
def Obligations.PlainReadsReturnTheState : Prop :=
  ∀ (x : Byte) (s : State),
    let byte := fun n : Nat => (BitVec.ofNat 8 n : Byte)
    let two := fun n : Nat => [byte (n / 256), byte n]
    let four := fun n : Nat => two (n / 65536) ++ two n
    let flag := fun (b : Bool) (k : Nat) => if b = true then 2 ^ k else 0
    let mode := match s.mode with | .pass => 0 | .regulate => 1 | .draining => 2 | .quiesced => 3
    let link := match s.link.state with | .waitCredit => 0 | .online => 1 | .failed => 2
    let inUse := (allSlots.filter (fun i => decide ((s.slot i).state ≠ .free))).length
    let causes := fun a : AlertSet => flag a.check 0 + flag a.quiesced 1 + flag a.linkOnline 2 + flag a.linkFailed 3
    let headAge := fun p => match (s.port p).queue with | [] => 0xFFFF | e :: _ => e.age
    let r := s.chk.record
    let kinds := ((List.finRange 14).map (fun k => flag (r.kinds.row k) k.val)).sum
    (s.awaits (.readIdent x) →
        exec (.readIdent x) s = .next (s.answered (.readIdent x) .ok [0x03, 0xA9, 0x04, 0x16, 0x01]))
      ∧ (s.awaits (.readStatus x) → exec (.readStatus x) s = .next (s.answered (.readStatus x) .ok
          ([byte mode, byte link, byte s.link.epoch.val, byte s.link.advertised, byte (s.link.advertised - inUse), byte inUse]
          ++ allPorts.map (fun p => byte (s.port p).queue.length)
          ++ allPorts.map (fun p => byte (s.port p).list.length)
          ++ allPorts.flatMap (fun p => two (headAge p))
          ++ [byte (causes s.chk.mask * 16 + causes s.chk.pending)] ++ four s.ticks.stamp.toNat)))
      ∧ (s.awaits (.readTiming x) → exec (.readTiming x) s = .next (s.answered (.readTiming x) .ok
          ([byte (s.ticks.period / 65536)] ++ two s.ticks.period ++ two s.timing.responseTimeout ++ two s.timing.orphanLimit)))
      ∧ (s.awaits (.readCheckRecord x) →
        exec (.readCheckRecord x) s = .next (s.answered (.readCheckRecord x) .ok
          (two r.sequence.toNat ++ two kinds
          ++ match r.primary with
            | none => [byte r.count, byte (flag r.replaced 7), 0, 0, 0xFF, 0xFF, 0, 0, 0, 0, 0, 0xFF, 0xFF, 0, 0, 0, 0]
            | some c =>
              [byte r.count, byte (flag r.replaced 7 + 64 + flag c.addr.isSome 0), byte c.kind.code.val, byte c.kind.severity,
               c.port.elim 0xFF (fun p => byte p.val), c.tag.elim 0xFF (fun t => byte t.val),
               byte ((c.addr.getD 0).toNat / 2 ^ 32)] ++ four (c.addr.getD 0).toNat
              ++ [c.region.elim 0xFF (fun i => byte i.val), c.account.elim 0xFF (fun a => byte a.val)]
              ++ four c.stamp.toNat)))

/-- R5, R40, R87, R123, R156, R160, R166: a read of a record returns it as it stands, in the bytes and codes of Table 10-3, and an
index or group that names none is refused with its status and as many zeros; nothing else changes. -/
def Obligations.RecordReadsReturnTheRecord : Prop :=
  ∀ (x g : Byte) (s : State),
    let byte := fun n : Nat => (BitVec.ofNat 8 n : Byte)
    let two := fun n : Nat => [byte (n / 256), byte n]
    let four := fun n : Nat => two (n / 65536) ++ two n
    let address := fun a : Addr => byte (a.toNat / 2 ^ 32) :: four a.toNat
    let flag := fun (b : Bool) (k : Nat) => if b = true then 2 ^ k else 0
    let report := fun m : ReportMode => (match m with | .off => 0 | .protection => 1 | .memory => 2 | .all => 3 : Byte)
    let region := fun e : RegionEntry =>
      [byte (flag e.valid 7 + flag e.guard 0), byte e.sizeCode.val] ++ address e.base
        ++ [byte (e.writePorts.toNat * 16 + e.readPorts.toNat), byte (e.readLevel.val * 16 + e.writeLevel.val),
            report e.report]
        ++ allPorts.map (fun p => match e.selection.row p with | .account a => byte a.val | .portDefault => 0x80)
    let account := fun a : Account =>
      [match a.params.cls with | .realtime => 0 | .budgeted => 1 | .background => 2,
       byte (flag a.params.spareUse 7 + flag (decide (a.params.limit < a.balance)) 0)]
        ++ two a.params.limit ++ two a.params.clip
        ++ [byte a.params.requestCharge, byte a.params.unitCharge, byte a.params.drain]
        ++ two a.params.window ++ two a.balance
    let port := fun c : PortConfig =>
      [byte c.readLimit, byte c.writeLimit, byte c.defaultAccount.val, match c.noRegion with | .default => 0 | .refuse => 1,
       byte (flag c.defaultGuard 0), report c.defaultReport]
    let slot := fun sl : Slot =>
      [match sl.state with | .free => 0 | .issued => 1 | .returning => 2 | .orphaned => 3,
       byte (flag sl.detached 7 + flag sl.poisoned 6 + flag sl.guard 5 + flag sl.orphanTick.isSome 1
        + flag (decide (sl.dir = .write)) 0), byte sl.port.val, byte sl.tag.val] ++ address sl.addr
        ++ [byte sl.len, sl.account.elim 0xFF (fun a => byte a.val), sl.region.elim 0xFF (fun i => byte i.val),
            report sl.report, byte sl.epoch.val]
        ++ two ((List.finRange 16).map (fun k => flag (sl.received.row k) k.val)).sum
        ++ four sl.issueTick.toNat ++ four (sl.orphanTick.getD 0).toNat ++ two (min sl.age 0xFFFF)
        ++ two (if sl.state = .orphaned then sl.timeOrphaned else 0)
    let counters := fun l : List Word32 => l.flatMap (fun c => four c.toNat)
    (s.awaits (.readRegion x) → exec (.readRegion x) s = .next
        (if h : x.toNat < 16 then s.answered (.readRegion x) .ok (region (s.regions.row ⟨x.toNat, h⟩))
          else s.answered (.readRegion x) .badIndex (List.replicate 14 0)))
      ∧ (s.awaits (.readAccount x) → exec (.readAccount x) s = .next
        (if h : x.toNat < 16 then s.answered (.readAccount x) .ok (account (s.account ⟨x.toNat, h⟩))
          else s.answered (.readAccount x) .badIndex (List.replicate 13 0)))
      ∧ (s.awaits (.readPort x) → exec (.readPort x) s = .next
        (if h : x.toNat < 4 then s.answered (.readPort x) .ok (port (s.port ⟨x.toNat, h⟩).config)
          else s.answered (.readPort x) .badIndex (List.replicate 6 0)))
      ∧ (s.awaits (.readSlot x) → exec (.readSlot x) s = .next
        (if h : x.toNat < 32 then s.answered (.readSlot x) .ok (slot (s.slot ⟨x.toNat, h⟩))
          else s.answered (.readSlot x) .badIndex (List.replicate 28 0)))
      ∧ (s.awaits (.readCounters x g) → exec (.readCounters x g) s = .next
        (if g.toNat = 0 then
          (if h : x.toNat < 16 then
            let c := (s.account ⟨x.toNat, h⟩).counters
            s.answered (.readCounters x g) .ok (counters [c.grants, c.units, c.overTicks, c.urgentGrants, c.spareGrants])
          else s.answered (.readCounters x g) .badIndex (List.replicate 20 0))
        else if g.toNat = 1 then
          (if h : x.toNat < 4 then
            let c := (s.port ⟨x.toNat, h⟩).counters
            s.answered (.readCounters x g) .ok (counters [c.accepted, c.refused, c.timedOut, c.aborted, 0])
          else s.answered (.readCounters x g) .badIndex (List.replicate 20 0))
        else if g.toNat = 2 then
          s.answered (.readCounters x g) .ok
            (counters [s.chk.globals.late, s.chk.globals.stale, s.chk.globals.suppressed, 0, 0])
        else s.answered (.readCounters x g) .badValue (List.replicate 20 0)))

/-! ### The management port: writes -/

/-- R4, R166: WRITE REGION replaces the whole entry in every mode, or is refused BAD_INDEX, then BAD_VALUE, with no change. -/
def Obligations.WriteRegionReplacesTheEntry : Prop :=
  ∀ (x : Byte) (b : Tab 14 Byte) (s : State), s.awaits (.writeRegion x b) →
    let base := bytesToNat [b.row 2, b.row 3, b.row 4, b.row 5, b.row 6]
    let names := fun v : Byte => v.toNat < 16 ∨ v = 0x80
    let sound := (b.row 1).toNat ≤ 28 ∧ base % 2 ^ (12 + (b.row 1).toNat) = 0 ∧ names (b.row 10) ∧ names (b.row 11)
      ∧ names (b.row 12) ∧ names (b.row 13) ∧ (b.row 9).toNat ≤ 3
    (16 ≤ x.toNat → exec (.writeRegion x b) s = .next (s.answered (.writeRegion x b) .badIndex []))
      ∧ (x.toNat < 16 → ¬sound → exec (.writeRegion x b) s = .next (s.answered (.writeRegion x b) .badValue []))
      ∧ ∀ (i : RegionId) (e : RegionEntry), i.val = x.toNat → sound →
          e.valid = (b.row 0).getLsbD 7 → e.base.toNat = base → e.sizeCode.val = (b.row 1).toNat →
          e.readPorts = (b.row 7).extractLsb' 0 4 → e.writePorts = (b.row 7).extractLsb' 4 4 →
          e.readLevel.val = (b.row 8).toNat / 16 % 4 → e.writeLevel.val = (b.row 8).toNat % 4 →
          (∀ p : PortId, (e.selection.row p).code = b.row ⟨10 + p.val, by omega⟩) →
          e.guard = (b.row 0).getLsbD 0 → e.report.code = b.row 9 →
          exec (.writeRegion x b) s
            = .next (State.answered { s with regions := s.regions.setRow i e } (.writeRegion x b) .ok [])

/-- R36, R37, R166: WRITE ACCOUNT replaces all the parameters at once and zeroes, keeps or clips the balance; the counters stay.
It is refused BAD_INDEX, then BAD_VALUE, with no change. -/
def Obligations.WriteAccountReplacesTheParameters : Prop :=
  ∀ (x : Byte) (b : Tab 11 Byte) (s : State), s.awaits (.writeAccount x b) →
    let limit := (b.row 2).toNat * 256 + (b.row 3).toNat
    let clip := (b.row 4).toNat * 256 + (b.row 5).toNat
    let window := ((b.row 9).toNat * 256 + (b.row 10).toNat) % 4096
    let sound := (b.row 0).toNat ≤ 2 ∧ limit ≤ clip ∧ (b.row 8).toNat ≠ 0 ∧ window ≠ 0
    (16 ≤ x.toNat → exec (.writeAccount x b) s = .next (s.answered (.writeAccount x b) .badIndex []))
      ∧ (x.toNat < 16 → ¬sound → exec (.writeAccount x b) s = .next (s.answered (.writeAccount x b) .badValue []))
      ∧ ∀ (a : AccountId) (c : AccountClass), a.val = x.toNat → sound → c.code = b.row 0 →
          exec (.writeAccount x b) s
            = .next (State.answered
                (s.modAccount a (fun r =>
                  { r with
                    params := { cls := c, limit := limit, clip := clip, requestCharge := (b.row 6).toNat,
                                unitCharge := (b.row 7).toNat, drain := (b.row 8).toNat, window := window,
                                spareUse := (b.row 1).getLsbD 7 }
                    balance := if (b.row 1).getLsbD 0 then 0 else if r.balance ≤ clip then r.balance else clip }))
                (.writeAccount x b) .ok [])

/-- R123, R149, R161: WRITE PORT and WRITE TIMING are taken in QUIESCED alone; refused in the order their rules give, they change
nothing; taken, they replace the configuration, or the three times with the REFCLK count restarted and the stamp kept. -/
def Obligations.QuiescedOnlyWritesReplaceTheSettings : Prop :=
  ∀ (x : Byte) (b : Tab 6 Byte) (w : Tab 7 Byte) (s : State),
    let sound := 1 ≤ (b.row 0).toNat ∧ (b.row 0).toNat ≤ 16 ∧ 1 ≤ (b.row 1).toNat ∧ (b.row 1).toNat ≤ 16
      ∧ (b.row 2).toNat ≤ 15 ∧ (b.row 3).toNat ≤ 1 ∧ (b.row 5).toNat ≤ 3
    let period := ((w.row 0).toNat * 256 + (w.row 1).toNat) * 256 + (w.row 2).toNat
    let timeout := (w.row 3).toNat * 256 + (w.row 4).toNat
    let limit := ((w.row 5).toNat * 256 + (w.row 6).toNat) % 4096
    let timely := 16 ≤ period ∧ period ≤ 65536 ∧ timeout ≤ 4095 ∧ limit ≠ 0
    (s.awaits (.writePort x b) →
      (4 ≤ x.toNat → exec (.writePort x b) s = .next (s.answered (.writePort x b) .badIndex []))
      ∧ (x.toNat < 4 → s.mode ≠ .quiesced → exec (.writePort x b) s = .next (s.answered (.writePort x b) .wrongMode []))
      ∧ (x.toNat < 4 → s.mode = .quiesced → ¬sound →
          exec (.writePort x b) s = .next (s.answered (.writePort x b) .badValue []))
      ∧ ∀ (p : PortId) (a : AccountId) (n : NoRegionPolicy) (r : ReportMode), p.val = x.toNat → s.mode = .quiesced → sound →
          a.val = (b.row 2).toNat → n.code = b.row 3 → r.code = b.row 5 →
          exec (.writePort x b) s
            = .next (State.answered
                (s.modPort p (fun po =>
                  { po with config := { readLimit := (b.row 0).toNat, writeLimit := (b.row 1).toNat, defaultAccount := a,
                                        noRegion := n, defaultGuard := (b.row 4).getLsbD 0, defaultReport := r } }))
                (.writePort x b) .ok []))
      ∧ (s.awaits (.writeTiming x w) →
      (s.mode ≠ .quiesced → exec (.writeTiming x w) s = .next (s.answered (.writeTiming x w) .wrongMode []))
      ∧ (s.mode = .quiesced → ¬timely → exec (.writeTiming x w) s = .next (s.answered (.writeTiming x w) .badValue []))
      ∧ (s.mode = .quiesced → timely → exec (.writeTiming x w) s
          = .next (State.answered
              { s with ticks := { period := period, count := 0, stamp := s.ticks.stamp }
                       timing := { responseTimeout := timeout, orphanLimit := limit } } (.writeTiming x w) .ok [])))

/-- R144, R145: SET MODE. PASS and REGULATE are refused BUSY while DRAINING and else set the mode, after which the ports take
what they held; DRAIN begins a drain, which completes at once when its condition holds, and changes nothing when one has begun or
ended; a target code that names nothing is refused BAD_VALUE in every mode (it stands with SET_MODE_PASS, log 11). -/
def Obligations.SetModeChangesTheMode : Prop :=
  ∀ (x : Byte) (s : State),
    (s.awaits (.setModePass x 0) →
        (s.mode ≠ .draining →
          exec (.setModePass x 0) s = .next ((State.finish { s with mode := .pass }).answered (.setModePass x 0) .ok []))
        ∧ (s.mode = .draining → exec (.setModePass x 0) s = .next (s.answered (.setModePass x 0) .busy [])))
      ∧ (s.awaits (.setModeRegulate x) →
        (s.mode ≠ .draining → exec (.setModeRegulate x) s
          = .next ((State.finish { s with mode := .regulate }).answered (.setModeRegulate x) .ok []))
        ∧ (s.mode = .draining → exec (.setModeRegulate x) s = .next (s.answered (.setModeRegulate x) .busy [])))
      ∧ (∀ target : Byte, 2 < target.toNat → s.awaits (.setModePass x target) →
        exec (.setModePass x target) s = .next (s.answered (.setModePass x target) .badValue []))
      ∧ (s.awaits (.setModeDrain x) →
        ((s.mode = .pass ∨ s.mode = .regulate) → s.drained = false →
          exec (.setModeDrain x) s = .next (State.answered { s with mode := .draining } (.setModeDrain x) .ok []))
        ∧ ((s.mode = .pass ∨ s.mode = .regulate) → s.drained = true →
          exec (.setModeDrain x) s
            = .next (State.answered
                { s with mode := .quiesced, chk := { s.chk with pending := { s.chk.pending with quiesced := true } } }
                (.setModeDrain x) .ok []))
        ∧ ((s.mode = .draining ∨ s.mode = .quiesced) →
          exec (.setModeDrain x) s = .next (s.answered (.setModeDrain x) .ok [])))

/-- R102: RESET LINK, in every mode and link state, frees every slot by R84, advances the epoch, zeroes the credits, enters
WAIT_CREDIT and sends a RESTART with the new epoch; the fences and the drain this makes due are parts of the same event. -/
def Obligations.ResetLinkRestartsTheLink : Prop :=
  ∀ (x : Byte) (s : State), s.awaits (.resetLink x) →
    exec (.resetLink x) s
      = .next (State.answered
          (State.settle { s.freeAllSlots with
            link := { state := .waitCredit, epoch := s.link.epoch + 1, advertised := 0 }
            mlDn := s.mlDn ++ [.restart (s.link.epoch + 1)] })
          (.resetLink x) .ok [])

/-- R135, R160: CLEAR CHECKS empties the record but its sequence when it carries that sequence, and is refused STALE otherwise;
CLEAR COUNTERS sets the counters of its group alone to 0. -/
def Obligations.ClearCommandsEmptyRecordAndCounters : Prop :=
  ∀ (x g : Byte) (b : Tab 2 Byte) (s : State),
    (s.awaits (.clearChecks x b) →
      ((b.row 0).toNat * 256 + (b.row 1).toNat = s.chk.record.sequence.toNat → exec (.clearChecks x b) s
        = .next (State.answered
            { s with chk := { s.chk with record := { sequence := s.chk.record.sequence, kinds := Tab.const 14 false, count := 0,
                                                     replaced := false, primary := none } } } (.clearChecks x b) .ok []))
      ∧ ((b.row 0).toNat * 256 + (b.row 1).toNat ≠ s.chk.record.sequence.toNat →
        exec (.clearChecks x b) s = .next (s.answered (.clearChecks x b) .stale [])))
      ∧ (s.awaits (.clearCounters x g) → exec (.clearCounters x g) s = .next
        (if g.toNat = 0 then
          (if h : x.toNat < 16 then
            (s.modAccount ⟨x.toNat, h⟩ (fun r =>
              { r with counters := { grants := 0, units := 0, overTicks := 0, urgentGrants := 0, spareGrants := 0 } })).answered
              (.clearCounters x g) .ok []
          else s.answered (.clearCounters x g) .badIndex [])
        else if g.toNat = 1 then
          (if h : x.toNat < 4 then
            (s.modPort ⟨x.toNat, h⟩ (fun po =>
              { po with counters := { accepted := 0, refused := 0, timedOut := 0, aborted := 0 } })).answered
              (.clearCounters x g) .ok []
          else s.answered (.clearCounters x g) .badIndex [])
        else if g.toNat = 2 then
          State.answered { s with chk := { s.chk with globals := { late := 0, stale := 0, suppressed := 0 } } }
            (.clearCounters x g) .ok []
        else s.answered (.clearCounters x g) .badValue []))

/-- R138 to R140: SET ALERT MASK replaces the four mask bits, ACK ALERT clears the pending flags it names, a value above 0Fh is
refused BAD_VALUE by both; ALERT_N is low exactly while RST_N is high and some cause is pending and enabled. -/
def Obligations.AlertCommandsAndLine : Prop :=
  (∀ (x v : Byte) (s : State),
      (s.awaits (.setAlertMask x v) →
        (v.toNat < 16 → exec (.setAlertMask x v) s
          = .next (State.answered
              { s with chk := { s.chk with mask := { check := v.getLsbD 0, quiesced := v.getLsbD 1, linkOnline := v.getLsbD 2,
                                                     linkFailed := v.getLsbD 3 } } } (.setAlertMask x v) .ok []))
        ∧ (16 ≤ v.toNat → exec (.setAlertMask x v) s = .next (s.answered (.setAlertMask x v) .badValue [])))
      ∧ (s.awaits (.ackAlert x v) →
        (v.toNat < 16 → exec (.ackAlert x v) s
          = .next (State.answered
              { s with chk := { s.chk with pending := { check := s.chk.pending.check && !v.getLsbD 0
                                                        quiesced := s.chk.pending.quiesced && !v.getLsbD 1
                                                        linkOnline := s.chk.pending.linkOnline && !v.getLsbD 2
                                                        linkFailed := s.chk.pending.linkFailed && !v.getLsbD 3 } } }
              (.ackAlert x v) .ok []))
        ∧ (16 ≤ v.toNat → exec (.ackAlert x v) s = .next (s.answered (.ackAlert x v) .badValue []))))
    ∧ ∀ s : State, s.alertLow = true ↔ s.rstLow = false
        ∧ (s.chk.pending.check = true ∧ s.chk.mask.check = true ∨ s.chk.pending.quiesced = true ∧ s.chk.mask.quiesced = true
          ∨ s.chk.pending.linkOnline = true ∧ s.chk.mask.linkOnline = true
          ∨ s.chk.pending.linkFailed = true ∧ s.chk.mask.linkFailed = true)

/-! ### Checks -/

/-- R130, R132: a check its report mode filters out only counts as suppressed; any other advances the sequence, joins the kinds
seen, counts up to 255, replaces the primary capture unless that is more severe, and raises CHECK. R128, R166: the fourteen kinds
have the severities and, in their order, the codes of Table 7-1. -/
def Obligations.CheckIsRecordedOrSuppressed : Prop :=
  ∀ (s : State) (m : ReportMode) (c : Capture),
    let filtered :=
      ((c.kind = .protection ∨ c.kind = .boundary) ∧ m ≠ .protection ∧ m ≠ .all)
        ∨ ((c.kind = .timeout ∨ c.kind = .memPoisoned ∨ c.kind = .memWriteFailed ∨ c.kind = .memCorrected
            ∨ c.kind = .dataParity) ∧ m ≠ .memory ∧ m ≠ .all)
    let r := s.chk.record
    (filtered → s.raise m c
        = { s with chk := { s.chk with globals := { s.chk.globals with suppressed := s.chk.globals.suppressed + 1 } } })
      ∧ (¬filtered → ∃ t : CheckRecord,
          s.raise m c = { s with chk := { s.chk with record := t, pending := { s.chk.pending with check := true } } }
            ∧ t.sequence = r.sequence + 1
            ∧ (∀ k : CheckKind, t.kinds.row k.code = true ↔ k = c.kind ∨ r.kinds.row k.code = true)
            ∧ t.count = (if r.count < 255 then r.count + 1 else r.count)
            ∧ (r.primary = none → t.primary = some c ∧ t.replaced = r.replaced)
            ∧ (∀ old, r.primary = some old → old.kind.severity ≤ c.kind.severity → t.primary = some c ∧ t.replaced = true)
            ∧ ∀ old, r.primary = some old → c.kind.severity < old.kind.severity →
                t.primary = some old ∧ t.replaced = r.replaced)
      ∧ (let kinds : List CheckKind :=
          [.linkFailed, .timeout, .memPoisoned, .memWriteFailed, .protection, .boundary, .noRegion, .malformed, .dataParity,
           .dupTag, .strayData, .linkProtocol, .memCorrected, .late]
        kinds.map (·.code.val) = List.range 14 ∧ kinds.map (·.severity) = [4, 3, 3, 3, 2, 2, 2, 2, 2, 2, 2, 2, 1, 1])

/-! ### What holds in every state that a run reaches -/

/-- R22: every step keeps every balance between 0 and its account's clip, and every parameter in its range. -/
def Obligations.AccountsStayInRange : Prop :=
  ∀ s t : State, AccountsInRange s → step s = .next t → AccountsInRange t

/-- R2, R28, R34, R42, R79, R114, R118, R123: every step keeps the settings, queues, lists and buffer counts in range and every
region's base a multiple of its size. R88, R114, R115, R118: where the tag sets are sound, every step keeps each record of a data
order list short of its units and naming the write that waits for them, the units a port holds equal to those of its entries, and
in every ISSUE sent the units that its length says. -/
def Obligations.SettingsQueuesAndWriteDataStaySound : Prop :=
  ∀ s t : State, step s = .next t →
    (TimingInRange s → RegionsAligned s → PortsInRange s → BufferInRange s →
        TimingInRange t ∧ RegionsAligned t ∧ PortsInRange t ∧ BufferInRange t)
      ∧ (TagsSound s → WriteDataSound s → WriteDataSound t ∧ (IssuesSound s → IssuesSound t))

/-- R131, R132: every step keeps the check record empty or holding a capture at least as severe as every kind seen. -/
def Obligations.CheckRecordStaysSound : Prop :=
  ∀ s t : State, CheckRecordSound s → step s = .next t → CheckRecordSound t

/-- R64, R66, R93, R104: every step keeps the slots in use within the credits and in the current epoch, FREE slots at their
reset values, and credits only while ONLINE. -/
def Obligations.SlotsAndLinkStayTogether : Prop :=
  ∀ s t : State, SlotsClean s → LinkSound s → step s = .next t → SlotsClean t ∧ LinkSound t

/-- R51, R111, R122: every step keeps the owed counts equal to the slots that owe an answer, the tag set equal to the tags of the
queue and of those slots, no tag twice, and the owed counts within the port's limits. -/
def Obligations.OwedCountsAndTagsStayExact : Prop :=
  ∀ s t : State, SlotsClean s → OwedSound s → TagsSound s → step s = .next t →
    OwedSound t ∧ TagsSound t ∧ (QuiescedEmpty s → OwedWithinLimits s → OwedWithinLimits t)

/-- R76, R77: every step keeps guarded slots that overlap free of writes. Of two slots of which the later granted alone was guarded
the same holds: a slot that a step takes into use under the guard overlaps no slot in use with a write among the two, and no step
changes the range, the kind or the guard of a slot that stays in use. -/
def Obligations.GuardedSlotsStayApart : Prop :=
  ∀ s t : State, step s = .next t →
    (SlotsClean s → GuardedApart s → GuardedApart t)
      ∧ (∀ i j : SlotId, i ≠ j → (s.slot i).state = .free → (t.slot i).state ≠ .free → (t.slot i).guard = true →
          (t.slot j).state ≠ .free →
          (t.slot i).addr.toNat ≤ (t.slot j).addr.toNat + 32 * (t.slot j).len - 1 →
          (t.slot j).addr.toNat ≤ (t.slot i).addr.toNat + 32 * (t.slot i).len - 1 →
          (t.slot i).dir = .read ∧ (t.slot j).dir = .read)
      ∧ ∀ i : SlotId, (s.slot i).state ≠ .free → (t.slot i).state ≠ .free →
          (t.slot i).addr = (s.slot i).addr ∧ (t.slot i).len = (s.slot i).len ∧ (t.slot i).dir = (s.slot i).dir
            ∧ (t.slot i).guard = (s.slot i).guard

/-- R44, R146, R148: every step keeps a QUIESCED part empty and leaves nothing due untaken, unless the queue names one of the
part's own events next, which is then taken first (the model's choice, log 1). -/
def Obligations.QuiescedStaysEmptyAndNothingWaits : Prop :=
  ∀ s t : State, QuiescedEmpty s → Prompt s → step s = .next t → QuiescedEmpty t ∧ Prompt t

/-- Everything that the invariants say holds right after reset. -/
def Obligations.InvariantsHoldAtReset : Prop :=
  AccountsInRange State.reset ∧ TimingInRange State.reset ∧ RegionsAligned State.reset ∧ PortsInRange State.reset
    ∧ BufferInRange State.reset ∧ CheckRecordSound State.reset ∧ SlotsClean State.reset ∧ LinkSound State.reset
    ∧ OwedSound State.reset ∧ TagsSound State.reset ∧ OwedWithinLimits State.reset ∧ GuardedApart State.reset
    ∧ WriteDataSound State.reset ∧ IssuesSound State.reset ∧ QuiescedEmpty State.reset ∧ Prompt State.reset
end

