-- ==== Sys2Proof/Laws/State.lean ====
section
/-! SUPPORT. One lemma for each field and each update: rows of tables, the state's named updates, a port's named updates.
The accessors of rows unfold to `Tab.row`, the normal form of these lemmas. -/

namespace Sys2Proof

/-! ### Tables -/

theorem Tab.row_setRow {n : Nat} {α : Type} (t : Tab n α) (i j : Fin n) (x : α) :
    (t.setRow i x).row j = if j = i then x else t.row j := by
  simp only [Tab.setRow, Tab.row, Vector.getElem_set]
  by_cases h : j = i
  · subst h; simp
  · rw [if_neg h, if_neg (fun e => h (Fin.ext e.symm))]

@[simp] theorem Tab.row_setRow_self {n : Nat} {α : Type} (t : Tab n α) (i : Fin n) (x : α) :
    (t.setRow i x).row i = x := by simp [Tab.row_setRow]

@[simp] theorem Tab.row_setRow_ne {n : Nat} {α : Type} (t : Tab n α) {i j : Fin n} (h : j ≠ i) (x : α) :
    (t.setRow i x).row j = t.row j := by simp [Tab.row_setRow, h]

theorem Tab.row_modRow {n : Nat} {α : Type} (t : Tab n α) (i j : Fin n) (f : α → α) :
    (t.modRow i f).row j = if j = i then f (t.row i) else t.row j := Tab.row_setRow t i j _

@[simp] theorem Tab.row_modRow_self {n : Nat} {α : Type} (t : Tab n α) (i : Fin n) (f : α → α) :
    (t.modRow i f).row i = f (t.row i) := by simp [Tab.row_modRow]

@[simp] theorem Tab.row_modRow_ne {n : Nat} {α : Type} (t : Tab n α) {i j : Fin n} (h : j ≠ i) (f : α → α) :
    (t.modRow i f).row j = t.row j := by simp [Tab.row_modRow, h]

@[simp] theorem Tab.row_mapRows {n : Nat} {α β : Type} (t : Tab n α) (f : α → β) (j : Fin n) :
    (t.mapRows f).row j = f (t.row j) := by
  simp [Tab.mapRows, Tab.row]

@[simp] theorem Tab.row_const {n : Nat} {α : Type} (x : α) (j : Fin n) : (Tab.const n x).row j = x := by
  simp [Tab.const, Tab.row]

theorem Tab.ext_rows {n : Nat} {α : Type} {a b : Tab n α} (h : ∀ i, a.row i = b.row i) : a = b :=
  Vector.ext (fun i hi => h ⟨i, hi⟩)

@[simp] theorem Tab.setRow_row {n : Nat} {α : Type} (t : Tab n α) (i : Fin n) : t.setRow i (t.row i) = t := by
  apply Tab.ext_rows; intro j; by_cases h : j = i
  · subst h; simp
  · simp [h]

theorem Tab.toList_eq_map {n : Nat} {α : Type} (t : Tab n α) : t.toList = (List.finRange n).map t.row := by
  apply List.ext_getElem <;> simp [Tab.row]

theorem Tab.mem_toList {n : Nat} {α : Type} (t : Tab n α) (x : α) : x ∈ t.toList ↔ ∃ i, t.row i = x := by
  rw [Tab.toList_eq_map]; simp

/-- How many rows have a property, after one row is replaced. -/
theorem Tab.count_setRow {n : Nat} {α : Type} (t : Tab n α) (i : Fin n) (x : α) (q : α → Bool) :
    ((t.setRow i x).toList.filter q).length + (if q (t.row i) then 1 else 0)
      = (t.toList.filter q).length + (if q x then 1 else 0) := by
  have hl : i.val < t.toList.length := by simp
  have hg : t.toList[i.val] = t.row i := by simp [Tab.row]
  have hc : (if q t.toList[i.val] = true then 1 else 0) ≤ t.toList.countP q := by
    split
    · next h => exact List.countP_pos_iff.mpr ⟨_, List.getElem_mem hl, h⟩
    · exact Nat.zero_le _
  simp only [← List.countP_eq_length_filter, Tab.setRow, Vector.toList_set]
  rw [List.countP_set hl, hg]
  rw [hg] at hc
  omega

/-- Counts over tables whose rows agree on the property are equal. -/
theorem Tab.count_congr {n : Nat} {α β : Type} (t : Tab n α) (u : Tab n β) (q : α → Bool) (r : β → Bool)
    (h : ∀ i, q (t.row i) = r (u.row i)) : (t.toList.filter q).length = (u.toList.filter r).length := by
  simp only [Tab.toList_eq_map, List.filter_map, List.length_map]
  congr 1
  exact List.filter_congr (fun i _ => h i)

theorem allPorts_eq : allPorts = List.finRange 4 := by decide

@[simp] theorem mem_allPorts (p : PortId) : p ∈ allPorts := by simp [allPorts_eq]

@[simp] theorem mem_allSlots (i : SlotId) : i ∈ allSlots := by simp [allSlots]

@[simp] theorem mem_allRegions (i : RegionId) : i ∈ allRegions := by simp [allRegions]

end Sys2Proof

namespace Sys2Proof.Machine

/-! ### Accessors -/

@[simp] theorem State.port_eq (s : State) (p : PortId) : s.port p = s.ports.row p := (rfl)
@[simp] theorem State.slot_eq (s : State) (i : SlotId) : s.slot i = s.slots.row i := (rfl)
@[simp] theorem State.account_eq (s : State) (a : AccountId) : s.account a = s.accounts.row a := (rfl)
@[simp] theorem State.bufCounts_eq (s : State) (p : PortId) : s.bufCounts p = s.buffer.row p := (rfl)

/-! ### Updates of the state -/

@[simp] theorem State.modPort_ports (s : State) (p : PortId) (f : Port → Port) :
    (s.modPort p f).ports = s.ports.modRow p f := rfl
@[simp] theorem State.setSlot_slots (s : State) (i : SlotId) (x : Slot) : (s.setSlot i x).slots = s.slots.setRow i x := rfl
@[simp] theorem State.modAccount_accounts (s : State) (a : AccountId) (f : Account → Account) :
    (s.modAccount a f).accounts = s.accounts.modRow a f := rfl
@[simp] theorem State.setBuf_buffer (s : State) (p : PortId) (b : BufCounts) :
    (s.setBuf p b).buffer = s.buffer.setRow p b := rfl
@[simp] theorem State.sendDn_mlDn (s : State) (m : DnMsg) : (s.sendDn m).mlDn = s.mlDn ++ [m] := rfl
@[simp] theorem State.raise_chk (s : State) (r : ReportMode) (c : Capture) : (s.raise r c).chk = s.chk.raise r c := rfl
@[simp] theorem State.freeSlot_slots (s : State) (i : SlotId) : (s.freeSlot i).slots = s.slots.setRow i Slot.reset := rfl
@[simp] theorem State.answerSlot_ports (s : State) (sl : Slot) (st : DoneStatus) :
    (s.answerSlot sl st).ports
      = s.ports.modRow sl.port (fun po => ((po.done sl.tag st).unowe sl.dir).countDone st) := rfl
@[simp] theorem State.alert_record (s : State) (c : Cause) : (s.alert c).chk.record = s.chk.record := by cases c <;> rfl
@[simp] theorem State.alert_mask (s : State) (c : Cause) : (s.alert c).chk.mask = s.chk.mask := by cases c <;> rfl
@[simp] theorem State.alert_globals (s : State) (c : Cause) : (s.alert c).chk.globals = s.chk.globals := by cases c <;> rfl

/-! #### modPort -/

@[simp] theorem State.modPort_regions (s : State) (p : PortId) (f : Port → Port) : (s.modPort p f).regions = s.regions := rfl
@[simp] theorem State.modPort_accounts (s : State) (p : PortId) (f : Port → Port) : (s.modPort p f).accounts = s.accounts := rfl
@[simp] theorem State.modPort_ticks (s : State) (p : PortId) (f : Port → Port) : (s.modPort p f).ticks = s.ticks := rfl
@[simp] theorem State.modPort_pointer (s : State) (p : PortId) (f : Port → Port) : (s.modPort p f).pointer = s.pointer := rfl
@[simp] theorem State.modPort_slots (s : State) (p : PortId) (f : Port → Port) : (s.modPort p f).slots = s.slots := rfl
@[simp] theorem State.modPort_timing (s : State) (p : PortId) (f : Port → Port) : (s.modPort p f).timing = s.timing := rfl
@[simp] theorem State.modPort_link (s : State) (p : PortId) (f : Port → Port) : (s.modPort p f).link = s.link := rfl
@[simp] theorem State.modPort_buffer (s : State) (p : PortId) (f : Port → Port) : (s.modPort p f).buffer = s.buffer := rfl
@[simp] theorem State.modPort_chk (s : State) (p : PortId) (f : Port → Port) : (s.modPort p f).chk = s.chk := rfl
@[simp] theorem State.modPort_mode (s : State) (p : PortId) (f : Port → Port) : (s.modPort p f).mode = s.mode := rfl
@[simp] theorem State.modPort_mgmt (s : State) (p : PortId) (f : Port → Port) : (s.modPort p f).mgmt = s.mgmt := rfl
@[simp] theorem State.modPort_rstLow (s : State) (p : PortId) (f : Port → Port) : (s.modPort p f).rstLow = s.rstLow := rfl
@[simp] theorem State.modPort_mlDn (s : State) (p : PortId) (f : Port → Port) : (s.modPort p f).mlDn = s.mlDn := rfl
@[simp] theorem State.modPort_pending (s : State) (p : PortId) (f : Port → Port) : (s.modPort p f).pending = s.pending := rfl

/-! #### setSlot -/

@[simp] theorem State.setSlot_ports (s : State) (i : SlotId) (x : Slot) : (s.setSlot i x).ports = s.ports := rfl
@[simp] theorem State.setSlot_regions (s : State) (i : SlotId) (x : Slot) : (s.setSlot i x).regions = s.regions := rfl
@[simp] theorem State.setSlot_accounts (s : State) (i : SlotId) (x : Slot) : (s.setSlot i x).accounts = s.accounts := rfl
@[simp] theorem State.setSlot_ticks (s : State) (i : SlotId) (x : Slot) : (s.setSlot i x).ticks = s.ticks := rfl
@[simp] theorem State.setSlot_pointer (s : State) (i : SlotId) (x : Slot) : (s.setSlot i x).pointer = s.pointer := rfl
@[simp] theorem State.setSlot_timing (s : State) (i : SlotId) (x : Slot) : (s.setSlot i x).timing = s.timing := rfl
@[simp] theorem State.setSlot_link (s : State) (i : SlotId) (x : Slot) : (s.setSlot i x).link = s.link := rfl
@[simp] theorem State.setSlot_buffer (s : State) (i : SlotId) (x : Slot) : (s.setSlot i x).buffer = s.buffer := rfl
@[simp] theorem State.setSlot_chk (s : State) (i : SlotId) (x : Slot) : (s.setSlot i x).chk = s.chk := rfl
@[simp] theorem State.setSlot_mode (s : State) (i : SlotId) (x : Slot) : (s.setSlot i x).mode = s.mode := rfl
@[simp] theorem State.setSlot_mgmt (s : State) (i : SlotId) (x : Slot) : (s.setSlot i x).mgmt = s.mgmt := rfl
@[simp] theorem State.setSlot_rstLow (s : State) (i : SlotId) (x : Slot) : (s.setSlot i x).rstLow = s.rstLow := rfl
@[simp] theorem State.setSlot_mlDn (s : State) (i : SlotId) (x : Slot) : (s.setSlot i x).mlDn = s.mlDn := rfl
@[simp] theorem State.setSlot_pending (s : State) (i : SlotId) (x : Slot) : (s.setSlot i x).pending = s.pending := rfl

/-! #### modAccount -/

@[simp] theorem State.modAccount_ports (s : State) (a : AccountId) (f : Account → Account) : (s.modAccount a f).ports = s.ports := rfl
@[simp] theorem State.modAccount_regions (s : State) (a : AccountId) (f : Account → Account) : (s.modAccount a f).regions = s.regions := rfl
@[simp] theorem State.modAccount_ticks (s : State) (a : AccountId) (f : Account → Account) : (s.modAccount a f).ticks = s.ticks := rfl
@[simp] theorem State.modAccount_pointer (s : State) (a : AccountId) (f : Account → Account) : (s.modAccount a f).pointer = s.pointer := rfl
@[simp] theorem State.modAccount_slots (s : State) (a : AccountId) (f : Account → Account) : (s.modAccount a f).slots = s.slots := rfl
@[simp] theorem State.modAccount_timing (s : State) (a : AccountId) (f : Account → Account) : (s.modAccount a f).timing = s.timing := rfl
@[simp] theorem State.modAccount_link (s : State) (a : AccountId) (f : Account → Account) : (s.modAccount a f).link = s.link := rfl
@[simp] theorem State.modAccount_buffer (s : State) (a : AccountId) (f : Account → Account) : (s.modAccount a f).buffer = s.buffer := rfl
@[simp] theorem State.modAccount_chk (s : State) (a : AccountId) (f : Account → Account) : (s.modAccount a f).chk = s.chk := rfl
@[simp] theorem State.modAccount_mode (s : State) (a : AccountId) (f : Account → Account) : (s.modAccount a f).mode = s.mode := rfl
@[simp] theorem State.modAccount_mgmt (s : State) (a : AccountId) (f : Account → Account) : (s.modAccount a f).mgmt = s.mgmt := rfl
@[simp] theorem State.modAccount_rstLow (s : State) (a : AccountId) (f : Account → Account) : (s.modAccount a f).rstLow = s.rstLow := rfl
@[simp] theorem State.modAccount_mlDn (s : State) (a : AccountId) (f : Account → Account) : (s.modAccount a f).mlDn = s.mlDn := rfl
@[simp] theorem State.modAccount_pending (s : State) (a : AccountId) (f : Account → Account) : (s.modAccount a f).pending = s.pending := rfl

/-! #### setBuf -/

@[simp] theorem State.setBuf_ports (s : State) (p : PortId) (b : BufCounts) : (s.setBuf p b).ports = s.ports := rfl
@[simp] theorem State.setBuf_regions (s : State) (p : PortId) (b : BufCounts) : (s.setBuf p b).regions = s.regions := rfl
@[simp] theorem State.setBuf_accounts (s : State) (p : PortId) (b : BufCounts) : (s.setBuf p b).accounts = s.accounts := rfl
@[simp] theorem State.setBuf_ticks (s : State) (p : PortId) (b : BufCounts) : (s.setBuf p b).ticks = s.ticks := rfl
@[simp] theorem State.setBuf_pointer (s : State) (p : PortId) (b : BufCounts) : (s.setBuf p b).pointer = s.pointer := rfl
@[simp] theorem State.setBuf_slots (s : State) (p : PortId) (b : BufCounts) : (s.setBuf p b).slots = s.slots := rfl
@[simp] theorem State.setBuf_timing (s : State) (p : PortId) (b : BufCounts) : (s.setBuf p b).timing = s.timing := rfl
@[simp] theorem State.setBuf_link (s : State) (p : PortId) (b : BufCounts) : (s.setBuf p b).link = s.link := rfl
@[simp] theorem State.setBuf_chk (s : State) (p : PortId) (b : BufCounts) : (s.setBuf p b).chk = s.chk := rfl
@[simp] theorem State.setBuf_mode (s : State) (p : PortId) (b : BufCounts) : (s.setBuf p b).mode = s.mode := rfl
@[simp] theorem State.setBuf_mgmt (s : State) (p : PortId) (b : BufCounts) : (s.setBuf p b).mgmt = s.mgmt := rfl
@[simp] theorem State.setBuf_rstLow (s : State) (p : PortId) (b : BufCounts) : (s.setBuf p b).rstLow = s.rstLow := rfl
@[simp] theorem State.setBuf_mlDn (s : State) (p : PortId) (b : BufCounts) : (s.setBuf p b).mlDn = s.mlDn := rfl
@[simp] theorem State.setBuf_pending (s : State) (p : PortId) (b : BufCounts) : (s.setBuf p b).pending = s.pending := rfl

/-! #### sendDn -/

@[simp] theorem State.sendDn_ports (s : State) (m : DnMsg) : (s.sendDn m).ports = s.ports := rfl
@[simp] theorem State.sendDn_regions (s : State) (m : DnMsg) : (s.sendDn m).regions = s.regions := rfl
@[simp] theorem State.sendDn_accounts (s : State) (m : DnMsg) : (s.sendDn m).accounts = s.accounts := rfl
@[simp] theorem State.sendDn_ticks (s : State) (m : DnMsg) : (s.sendDn m).ticks = s.ticks := rfl
@[simp] theorem State.sendDn_pointer (s : State) (m : DnMsg) : (s.sendDn m).pointer = s.pointer := rfl
@[simp] theorem State.sendDn_slots (s : State) (m : DnMsg) : (s.sendDn m).slots = s.slots := rfl
@[simp] theorem State.sendDn_timing (s : State) (m : DnMsg) : (s.sendDn m).timing = s.timing := rfl
@[simp] theorem State.sendDn_link (s : State) (m : DnMsg) : (s.sendDn m).link = s.link := rfl
@[simp] theorem State.sendDn_buffer (s : State) (m : DnMsg) : (s.sendDn m).buffer = s.buffer := rfl
@[simp] theorem State.sendDn_chk (s : State) (m : DnMsg) : (s.sendDn m).chk = s.chk := rfl
@[simp] theorem State.sendDn_mode (s : State) (m : DnMsg) : (s.sendDn m).mode = s.mode := rfl
@[simp] theorem State.sendDn_mgmt (s : State) (m : DnMsg) : (s.sendDn m).mgmt = s.mgmt := rfl
@[simp] theorem State.sendDn_rstLow (s : State) (m : DnMsg) : (s.sendDn m).rstLow = s.rstLow := rfl
@[simp] theorem State.sendDn_pending (s : State) (m : DnMsg) : (s.sendDn m).pending = s.pending := rfl

/-! #### raise -/

@[simp] theorem State.raise_ports (s : State) (r : ReportMode) (c : Capture) : (s.raise r c).ports = s.ports := rfl
@[simp] theorem State.raise_regions (s : State) (r : ReportMode) (c : Capture) : (s.raise r c).regions = s.regions := rfl
@[simp] theorem State.raise_accounts (s : State) (r : ReportMode) (c : Capture) : (s.raise r c).accounts = s.accounts := rfl
@[simp] theorem State.raise_ticks (s : State) (r : ReportMode) (c : Capture) : (s.raise r c).ticks = s.ticks := rfl
@[simp] theorem State.raise_pointer (s : State) (r : ReportMode) (c : Capture) : (s.raise r c).pointer = s.pointer := rfl
@[simp] theorem State.raise_slots (s : State) (r : ReportMode) (c : Capture) : (s.raise r c).slots = s.slots := rfl
@[simp] theorem State.raise_timing (s : State) (r : ReportMode) (c : Capture) : (s.raise r c).timing = s.timing := rfl
@[simp] theorem State.raise_link (s : State) (r : ReportMode) (c : Capture) : (s.raise r c).link = s.link := rfl
@[simp] theorem State.raise_buffer (s : State) (r : ReportMode) (c : Capture) : (s.raise r c).buffer = s.buffer := rfl
@[simp] theorem State.raise_mode (s : State) (r : ReportMode) (c : Capture) : (s.raise r c).mode = s.mode := rfl
@[simp] theorem State.raise_mgmt (s : State) (r : ReportMode) (c : Capture) : (s.raise r c).mgmt = s.mgmt := rfl
@[simp] theorem State.raise_rstLow (s : State) (r : ReportMode) (c : Capture) : (s.raise r c).rstLow = s.rstLow := rfl
@[simp] theorem State.raise_mlDn (s : State) (r : ReportMode) (c : Capture) : (s.raise r c).mlDn = s.mlDn := rfl
@[simp] theorem State.raise_pending (s : State) (r : ReportMode) (c : Capture) : (s.raise r c).pending = s.pending := rfl

/-! #### alert -/

@[simp] theorem State.alert_ports (s : State) (c : Cause) : (s.alert c).ports = s.ports := rfl
@[simp] theorem State.alert_regions (s : State) (c : Cause) : (s.alert c).regions = s.regions := rfl
@[simp] theorem State.alert_accounts (s : State) (c : Cause) : (s.alert c).accounts = s.accounts := rfl
@[simp] theorem State.alert_ticks (s : State) (c : Cause) : (s.alert c).ticks = s.ticks := rfl
@[simp] theorem State.alert_pointer (s : State) (c : Cause) : (s.alert c).pointer = s.pointer := rfl
@[simp] theorem State.alert_slots (s : State) (c : Cause) : (s.alert c).slots = s.slots := rfl
@[simp] theorem State.alert_timing (s : State) (c : Cause) : (s.alert c).timing = s.timing := rfl
@[simp] theorem State.alert_link (s : State) (c : Cause) : (s.alert c).link = s.link := rfl
@[simp] theorem State.alert_buffer (s : State) (c : Cause) : (s.alert c).buffer = s.buffer := rfl
@[simp] theorem State.alert_mode (s : State) (c : Cause) : (s.alert c).mode = s.mode := rfl
@[simp] theorem State.alert_mgmt (s : State) (c : Cause) : (s.alert c).mgmt = s.mgmt := rfl
@[simp] theorem State.alert_rstLow (s : State) (c : Cause) : (s.alert c).rstLow = s.rstLow := rfl
@[simp] theorem State.alert_mlDn (s : State) (c : Cause) : (s.alert c).mlDn = s.mlDn := rfl
@[simp] theorem State.alert_pending (s : State) (c : Cause) : (s.alert c).pending = s.pending := rfl

/-! #### freeSlot -/

@[simp] theorem State.freeSlot_ports (s : State) (i : SlotId) : (s.freeSlot i).ports = s.ports := rfl
@[simp] theorem State.freeSlot_regions (s : State) (i : SlotId) : (s.freeSlot i).regions = s.regions := rfl
@[simp] theorem State.freeSlot_accounts (s : State) (i : SlotId) : (s.freeSlot i).accounts = s.accounts := rfl
@[simp] theorem State.freeSlot_ticks (s : State) (i : SlotId) : (s.freeSlot i).ticks = s.ticks := rfl
@[simp] theorem State.freeSlot_pointer (s : State) (i : SlotId) : (s.freeSlot i).pointer = s.pointer := rfl
@[simp] theorem State.freeSlot_timing (s : State) (i : SlotId) : (s.freeSlot i).timing = s.timing := rfl
@[simp] theorem State.freeSlot_link (s : State) (i : SlotId) : (s.freeSlot i).link = s.link := rfl
@[simp] theorem State.freeSlot_buffer (s : State) (i : SlotId) : (s.freeSlot i).buffer = s.buffer := rfl
@[simp] theorem State.freeSlot_chk (s : State) (i : SlotId) : (s.freeSlot i).chk = s.chk := rfl
@[simp] theorem State.freeSlot_mode (s : State) (i : SlotId) : (s.freeSlot i).mode = s.mode := rfl
@[simp] theorem State.freeSlot_mgmt (s : State) (i : SlotId) : (s.freeSlot i).mgmt = s.mgmt := rfl
@[simp] theorem State.freeSlot_rstLow (s : State) (i : SlotId) : (s.freeSlot i).rstLow = s.rstLow := rfl
@[simp] theorem State.freeSlot_mlDn (s : State) (i : SlotId) : (s.freeSlot i).mlDn = s.mlDn := rfl
@[simp] theorem State.freeSlot_pending (s : State) (i : SlotId) : (s.freeSlot i).pending = s.pending := rfl

/-! #### answerSlot -/

@[simp] theorem State.answerSlot_regions (s : State) (sl : Slot) (st : DoneStatus) : (s.answerSlot sl st).regions = s.regions := rfl
@[simp] theorem State.answerSlot_accounts (s : State) (sl : Slot) (st : DoneStatus) : (s.answerSlot sl st).accounts = s.accounts := rfl
@[simp] theorem State.answerSlot_ticks (s : State) (sl : Slot) (st : DoneStatus) : (s.answerSlot sl st).ticks = s.ticks := rfl
@[simp] theorem State.answerSlot_pointer (s : State) (sl : Slot) (st : DoneStatus) : (s.answerSlot sl st).pointer = s.pointer := rfl
@[simp] theorem State.answerSlot_slots (s : State) (sl : Slot) (st : DoneStatus) : (s.answerSlot sl st).slots = s.slots := rfl
@[simp] theorem State.answerSlot_timing (s : State) (sl : Slot) (st : DoneStatus) : (s.answerSlot sl st).timing = s.timing := rfl
@[simp] theorem State.answerSlot_link (s : State) (sl : Slot) (st : DoneStatus) : (s.answerSlot sl st).link = s.link := rfl
@[simp] theorem State.answerSlot_buffer (s : State) (sl : Slot) (st : DoneStatus) : (s.answerSlot sl st).buffer = s.buffer := rfl
@[simp] theorem State.answerSlot_chk (s : State) (sl : Slot) (st : DoneStatus) : (s.answerSlot sl st).chk = s.chk := rfl
@[simp] theorem State.answerSlot_mode (s : State) (sl : Slot) (st : DoneStatus) : (s.answerSlot sl st).mode = s.mode := rfl
@[simp] theorem State.answerSlot_mgmt (s : State) (sl : Slot) (st : DoneStatus) : (s.answerSlot sl st).mgmt = s.mgmt := rfl
@[simp] theorem State.answerSlot_rstLow (s : State) (sl : Slot) (st : DoneStatus) : (s.answerSlot sl st).rstLow = s.rstLow := rfl
@[simp] theorem State.answerSlot_mlDn (s : State) (sl : Slot) (st : DoneStatus) : (s.answerSlot sl st).mlDn = s.mlDn := rfl
@[simp] theorem State.answerSlot_pending (s : State) (sl : Slot) (st : DoneStatus) : (s.answerSlot sl st).pending = s.pending := rfl

/-! #### orphanSlot -/

@[simp] theorem State.orphanSlot_ports (s : State) (i : SlotId) : (s.orphanSlot i).ports = s.ports := rfl
@[simp] theorem State.orphanSlot_regions (s : State) (i : SlotId) : (s.orphanSlot i).regions = s.regions := rfl
@[simp] theorem State.orphanSlot_accounts (s : State) (i : SlotId) : (s.orphanSlot i).accounts = s.accounts := rfl
@[simp] theorem State.orphanSlot_ticks (s : State) (i : SlotId) : (s.orphanSlot i).ticks = s.ticks := rfl
@[simp] theorem State.orphanSlot_pointer (s : State) (i : SlotId) : (s.orphanSlot i).pointer = s.pointer := rfl
@[simp] theorem State.orphanSlot_timing (s : State) (i : SlotId) : (s.orphanSlot i).timing = s.timing := rfl
@[simp] theorem State.orphanSlot_link (s : State) (i : SlotId) : (s.orphanSlot i).link = s.link := rfl
@[simp] theorem State.orphanSlot_buffer (s : State) (i : SlotId) : (s.orphanSlot i).buffer = s.buffer := rfl
@[simp] theorem State.orphanSlot_chk (s : State) (i : SlotId) : (s.orphanSlot i).chk = s.chk := rfl
@[simp] theorem State.orphanSlot_mode (s : State) (i : SlotId) : (s.orphanSlot i).mode = s.mode := rfl
@[simp] theorem State.orphanSlot_mgmt (s : State) (i : SlotId) : (s.orphanSlot i).mgmt = s.mgmt := rfl
@[simp] theorem State.orphanSlot_rstLow (s : State) (i : SlotId) : (s.orphanSlot i).rstLow = s.rstLow := rfl
@[simp] theorem State.orphanSlot_mlDn (s : State) (i : SlotId) : (s.orphanSlot i).mlDn = s.mlDn := rfl
@[simp] theorem State.orphanSlot_pending (s : State) (i : SlotId) : (s.orphanSlot i).pending = s.pending := rfl

/-! #### countStale -/

@[simp] theorem State.countStale_ports (s : State) : (s.countStale).ports = s.ports := rfl
@[simp] theorem State.countStale_regions (s : State) : (s.countStale).regions = s.regions := rfl
@[simp] theorem State.countStale_accounts (s : State) : (s.countStale).accounts = s.accounts := rfl
@[simp] theorem State.countStale_ticks (s : State) : (s.countStale).ticks = s.ticks := rfl
@[simp] theorem State.countStale_pointer (s : State) : (s.countStale).pointer = s.pointer := rfl
@[simp] theorem State.countStale_slots (s : State) : (s.countStale).slots = s.slots := rfl
@[simp] theorem State.countStale_timing (s : State) : (s.countStale).timing = s.timing := rfl
@[simp] theorem State.countStale_link (s : State) : (s.countStale).link = s.link := rfl
@[simp] theorem State.countStale_buffer (s : State) : (s.countStale).buffer = s.buffer := rfl
@[simp] theorem State.countStale_mode (s : State) : (s.countStale).mode = s.mode := rfl
@[simp] theorem State.countStale_mgmt (s : State) : (s.countStale).mgmt = s.mgmt := rfl
@[simp] theorem State.countStale_rstLow (s : State) : (s.countStale).rstLow = s.rstLow := rfl
@[simp] theorem State.countStale_mlDn (s : State) : (s.countStale).mlDn = s.mlDn := rfl
@[simp] theorem State.countStale_pending (s : State) : (s.countStale).pending = s.pending := rfl

/-! #### countLate -/

@[simp] theorem State.countLate_ports (s : State) : (s.countLate).ports = s.ports := rfl
@[simp] theorem State.countLate_regions (s : State) : (s.countLate).regions = s.regions := rfl
@[simp] theorem State.countLate_accounts (s : State) : (s.countLate).accounts = s.accounts := rfl
@[simp] theorem State.countLate_ticks (s : State) : (s.countLate).ticks = s.ticks := rfl
@[simp] theorem State.countLate_pointer (s : State) : (s.countLate).pointer = s.pointer := rfl
@[simp] theorem State.countLate_slots (s : State) : (s.countLate).slots = s.slots := rfl
@[simp] theorem State.countLate_timing (s : State) : (s.countLate).timing = s.timing := rfl
@[simp] theorem State.countLate_link (s : State) : (s.countLate).link = s.link := rfl
@[simp] theorem State.countLate_buffer (s : State) : (s.countLate).buffer = s.buffer := rfl
@[simp] theorem State.countLate_mode (s : State) : (s.countLate).mode = s.mode := rfl
@[simp] theorem State.countLate_mgmt (s : State) : (s.countLate).mgmt = s.mgmt := rfl
@[simp] theorem State.countLate_rstLow (s : State) : (s.countLate).rstLow = s.rstLow := rfl
@[simp] theorem State.countLate_mlDn (s : State) : (s.countLate).mlDn = s.mlDn := rfl
@[simp] theorem State.countLate_pending (s : State) : (s.countLate).pending = s.pending := rfl

/-! #### linkProtocol -/

@[simp] theorem State.linkProtocol_ports (s : State) : (s.linkProtocol).ports = s.ports := rfl
@[simp] theorem State.linkProtocol_regions (s : State) : (s.linkProtocol).regions = s.regions := rfl
@[simp] theorem State.linkProtocol_accounts (s : State) : (s.linkProtocol).accounts = s.accounts := rfl
@[simp] theorem State.linkProtocol_ticks (s : State) : (s.linkProtocol).ticks = s.ticks := rfl
@[simp] theorem State.linkProtocol_pointer (s : State) : (s.linkProtocol).pointer = s.pointer := rfl
@[simp] theorem State.linkProtocol_slots (s : State) : (s.linkProtocol).slots = s.slots := rfl
@[simp] theorem State.linkProtocol_timing (s : State) : (s.linkProtocol).timing = s.timing := rfl
@[simp] theorem State.linkProtocol_link (s : State) : (s.linkProtocol).link = s.link := rfl
@[simp] theorem State.linkProtocol_buffer (s : State) : (s.linkProtocol).buffer = s.buffer := rfl
@[simp] theorem State.linkProtocol_mode (s : State) : (s.linkProtocol).mode = s.mode := rfl
@[simp] theorem State.linkProtocol_mgmt (s : State) : (s.linkProtocol).mgmt = s.mgmt := rfl
@[simp] theorem State.linkProtocol_rstLow (s : State) : (s.linkProtocol).rstLow = s.rstLow := rfl
@[simp] theorem State.linkProtocol_mlDn (s : State) : (s.linkProtocol).mlDn = s.mlDn := rfl
@[simp] theorem State.linkProtocol_pending (s : State) : (s.linkProtocol).pending = s.pending := rfl
/-! ### Updates of a port -/

@[simp] theorem Port.send_queue (po : Port) (m : RspMsg) : (po.send m).queue = po.queue := rfl
@[simp] theorem Port.send_list (po : Port) (m : RspMsg) : (po.send m).list = po.list := rfl
@[simp] theorem Port.send_tags (po : Port) (m : RspMsg) : (po.send m).tags = po.tags := rfl
@[simp] theorem Port.send_owedReads (po : Port) (m : RspMsg) : (po.send m).owedReads = po.owedReads := rfl
@[simp] theorem Port.send_owedWrites (po : Port) (m : RspMsg) : (po.send m).owedWrites = po.owedWrites := rfl
@[simp] theorem Port.send_config (po : Port) (m : RspMsg) : (po.send m).config = po.config := rfl
@[simp] theorem Port.send_counters (po : Port) (m : RspMsg) : (po.send m).counters = po.counters := rfl
@[simp] theorem Port.send_resetLow (po : Port) (m : RspMsg) : (po.send m).resetLow = po.resetLow := rfl
@[simp] theorem Port.send_reqOffers (po : Port) (m : RspMsg) : (po.send m).reqOffers = po.reqOffers := rfl
@[simp] theorem Port.send_dataOffers (po : Port) (m : RspMsg) : (po.send m).dataOffers = po.dataOffers := rfl

@[simp] theorem Port.addTag_queue (po : Port) (t : Tag) : (po.addTag t).queue = po.queue := rfl
@[simp] theorem Port.addTag_list (po : Port) (t : Tag) : (po.addTag t).list = po.list := rfl
@[simp] theorem Port.addTag_owedReads (po : Port) (t : Tag) : (po.addTag t).owedReads = po.owedReads := rfl
@[simp] theorem Port.addTag_owedWrites (po : Port) (t : Tag) : (po.addTag t).owedWrites = po.owedWrites := rfl
@[simp] theorem Port.addTag_config (po : Port) (t : Tag) : (po.addTag t).config = po.config := rfl
@[simp] theorem Port.addTag_counters (po : Port) (t : Tag) : (po.addTag t).counters = po.counters := rfl
@[simp] theorem Port.addTag_resetLow (po : Port) (t : Tag) : (po.addTag t).resetLow = po.resetLow := rfl
@[simp] theorem Port.addTag_reqOffers (po : Port) (t : Tag) : (po.addTag t).reqOffers = po.reqOffers := rfl
@[simp] theorem Port.addTag_dataOffers (po : Port) (t : Tag) : (po.addTag t).dataOffers = po.dataOffers := rfl
@[simp] theorem Port.addTag_rsp (po : Port) (t : Tag) : (po.addTag t).rsp = po.rsp := rfl

@[simp] theorem Port.dropTag_queue (po : Port) (t : Tag) : (po.dropTag t).queue = po.queue := rfl
@[simp] theorem Port.dropTag_list (po : Port) (t : Tag) : (po.dropTag t).list = po.list := rfl
@[simp] theorem Port.dropTag_owedReads (po : Port) (t : Tag) : (po.dropTag t).owedReads = po.owedReads := rfl
@[simp] theorem Port.dropTag_owedWrites (po : Port) (t : Tag) : (po.dropTag t).owedWrites = po.owedWrites := rfl
@[simp] theorem Port.dropTag_config (po : Port) (t : Tag) : (po.dropTag t).config = po.config := rfl
@[simp] theorem Port.dropTag_counters (po : Port) (t : Tag) : (po.dropTag t).counters = po.counters := rfl
@[simp] theorem Port.dropTag_resetLow (po : Port) (t : Tag) : (po.dropTag t).resetLow = po.resetLow := rfl
@[simp] theorem Port.dropTag_reqOffers (po : Port) (t : Tag) : (po.dropTag t).reqOffers = po.reqOffers := rfl
@[simp] theorem Port.dropTag_dataOffers (po : Port) (t : Tag) : (po.dropTag t).dataOffers = po.dataOffers := rfl
@[simp] theorem Port.dropTag_rsp (po : Port) (t : Tag) : (po.dropTag t).rsp = po.rsp := rfl

@[simp] theorem Port.done_queue (po : Port) (t : Tag) (st : DoneStatus) : (po.done t st).queue = po.queue := rfl
@[simp] theorem Port.done_list (po : Port) (t : Tag) (st : DoneStatus) : (po.done t st).list = po.list := rfl
@[simp] theorem Port.done_owedReads (po : Port) (t : Tag) (st : DoneStatus) : (po.done t st).owedReads = po.owedReads := rfl
@[simp] theorem Port.done_owedWrites (po : Port) (t : Tag) (st : DoneStatus) : (po.done t st).owedWrites = po.owedWrites := rfl
@[simp] theorem Port.done_config (po : Port) (t : Tag) (st : DoneStatus) : (po.done t st).config = po.config := rfl
@[simp] theorem Port.done_counters (po : Port) (t : Tag) (st : DoneStatus) : (po.done t st).counters = po.counters := rfl
@[simp] theorem Port.done_resetLow (po : Port) (t : Tag) (st : DoneStatus) : (po.done t st).resetLow = po.resetLow := rfl
@[simp] theorem Port.done_reqOffers (po : Port) (t : Tag) (st : DoneStatus) : (po.done t st).reqOffers = po.reqOffers := rfl
@[simp] theorem Port.done_dataOffers (po : Port) (t : Tag) (st : DoneStatus) : (po.done t st).dataOffers = po.dataOffers := rfl

@[simp] theorem Port.owe_queue (po : Port) (d : Dir) : (po.owe d).queue = po.queue := by cases d <;> rfl
@[simp] theorem Port.owe_list (po : Port) (d : Dir) : (po.owe d).list = po.list := by cases d <;> rfl
@[simp] theorem Port.owe_tags (po : Port) (d : Dir) : (po.owe d).tags = po.tags := by cases d <;> rfl
@[simp] theorem Port.owe_config (po : Port) (d : Dir) : (po.owe d).config = po.config := by cases d <;> rfl
@[simp] theorem Port.owe_counters (po : Port) (d : Dir) : (po.owe d).counters = po.counters := by cases d <;> rfl
@[simp] theorem Port.owe_resetLow (po : Port) (d : Dir) : (po.owe d).resetLow = po.resetLow := by cases d <;> rfl
@[simp] theorem Port.owe_reqOffers (po : Port) (d : Dir) : (po.owe d).reqOffers = po.reqOffers := by cases d <;> rfl
@[simp] theorem Port.owe_dataOffers (po : Port) (d : Dir) : (po.owe d).dataOffers = po.dataOffers := by cases d <;> rfl
@[simp] theorem Port.owe_rsp (po : Port) (d : Dir) : (po.owe d).rsp = po.rsp := by cases d <;> rfl

@[simp] theorem Port.unowe_queue (po : Port) (d : Dir) : (po.unowe d).queue = po.queue := by cases d <;> rfl
@[simp] theorem Port.unowe_list (po : Port) (d : Dir) : (po.unowe d).list = po.list := by cases d <;> rfl
@[simp] theorem Port.unowe_tags (po : Port) (d : Dir) : (po.unowe d).tags = po.tags := by cases d <;> rfl
@[simp] theorem Port.unowe_config (po : Port) (d : Dir) : (po.unowe d).config = po.config := by cases d <;> rfl
@[simp] theorem Port.unowe_counters (po : Port) (d : Dir) : (po.unowe d).counters = po.counters := by cases d <;> rfl
@[simp] theorem Port.unowe_resetLow (po : Port) (d : Dir) : (po.unowe d).resetLow = po.resetLow := by cases d <;> rfl
@[simp] theorem Port.unowe_reqOffers (po : Port) (d : Dir) : (po.unowe d).reqOffers = po.reqOffers := by cases d <;> rfl
@[simp] theorem Port.unowe_dataOffers (po : Port) (d : Dir) : (po.unowe d).dataOffers = po.dataOffers := by cases d <;> rfl
@[simp] theorem Port.unowe_rsp (po : Port) (d : Dir) : (po.unowe d).rsp = po.rsp := by cases d <;> rfl

@[simp] theorem Port.countDone_queue (po : Port) (st : DoneStatus) : (po.countDone st).queue = po.queue := by cases st <;> rfl
@[simp] theorem Port.countDone_list (po : Port) (st : DoneStatus) : (po.countDone st).list = po.list := by cases st <;> rfl
@[simp] theorem Port.countDone_tags (po : Port) (st : DoneStatus) : (po.countDone st).tags = po.tags := by cases st <;> rfl
@[simp] theorem Port.countDone_owedReads (po : Port) (st : DoneStatus) : (po.countDone st).owedReads = po.owedReads := by cases st <;> rfl
@[simp] theorem Port.countDone_owedWrites (po : Port) (st : DoneStatus) : (po.countDone st).owedWrites = po.owedWrites := by cases st <;> rfl
@[simp] theorem Port.countDone_config (po : Port) (st : DoneStatus) : (po.countDone st).config = po.config := by cases st <;> rfl
@[simp] theorem Port.countDone_resetLow (po : Port) (st : DoneStatus) : (po.countDone st).resetLow = po.resetLow := by cases st <;> rfl
@[simp] theorem Port.countDone_reqOffers (po : Port) (st : DoneStatus) : (po.countDone st).reqOffers = po.reqOffers := by cases st <;> rfl
@[simp] theorem Port.countDone_dataOffers (po : Port) (st : DoneStatus) : (po.countDone st).dataOffers = po.dataOffers := by cases st <;> rfl
@[simp] theorem Port.countDone_rsp (po : Port) (st : DoneStatus) : (po.countDone st).rsp = po.rsp := by cases st <;> rfl

@[simp] theorem Port.modEntry_list (po : Port) (t : Option Tag) (f : Entry → Entry) : (po.modEntry t f).list = po.list := rfl
@[simp] theorem Port.modEntry_tags (po : Port) (t : Option Tag) (f : Entry → Entry) : (po.modEntry t f).tags = po.tags := rfl
@[simp] theorem Port.modEntry_owedReads (po : Port) (t : Option Tag) (f : Entry → Entry) : (po.modEntry t f).owedReads = po.owedReads := rfl
@[simp] theorem Port.modEntry_owedWrites (po : Port) (t : Option Tag) (f : Entry → Entry) : (po.modEntry t f).owedWrites = po.owedWrites := rfl
@[simp] theorem Port.modEntry_config (po : Port) (t : Option Tag) (f : Entry → Entry) : (po.modEntry t f).config = po.config := rfl
@[simp] theorem Port.modEntry_counters (po : Port) (t : Option Tag) (f : Entry → Entry) : (po.modEntry t f).counters = po.counters := rfl
@[simp] theorem Port.modEntry_resetLow (po : Port) (t : Option Tag) (f : Entry → Entry) : (po.modEntry t f).resetLow = po.resetLow := rfl
@[simp] theorem Port.modEntry_reqOffers (po : Port) (t : Option Tag) (f : Entry → Entry) : (po.modEntry t f).reqOffers = po.reqOffers := rfl
@[simp] theorem Port.modEntry_dataOffers (po : Port) (t : Option Tag) (f : Entry → Entry) : (po.modEntry t f).dataOffers = po.dataOffers := rfl
@[simp] theorem Port.modEntry_rsp (po : Port) (t : Option Tag) (f : Entry → Entry) : (po.modEntry t f).rsp = po.rsp := rfl

@[simp] theorem Port.popData_queue (po : Port) : (po.popData).queue = po.queue := rfl
@[simp] theorem Port.popData_list (po : Port) : (po.popData).list = po.list := rfl
@[simp] theorem Port.popData_tags (po : Port) : (po.popData).tags = po.tags := rfl
@[simp] theorem Port.popData_owedReads (po : Port) : (po.popData).owedReads = po.owedReads := rfl
@[simp] theorem Port.popData_owedWrites (po : Port) : (po.popData).owedWrites = po.owedWrites := rfl
@[simp] theorem Port.popData_config (po : Port) : (po.popData).config = po.config := rfl
@[simp] theorem Port.popData_counters (po : Port) : (po.popData).counters = po.counters := rfl
@[simp] theorem Port.popData_resetLow (po : Port) : (po.popData).resetLow = po.resetLow := rfl
@[simp] theorem Port.popData_reqOffers (po : Port) : (po.popData).reqOffers = po.reqOffers := rfl
@[simp] theorem Port.popData_rsp (po : Port) : (po.popData).rsp = po.rsp := rfl

@[simp] theorem Port.enqueue_owedReads (po : Port) (am : AdmissionMode) (m : RequestMsg) (sn : Snapshot) : (po.enqueue am m sn).owedReads = po.owedReads := rfl
@[simp] theorem Port.enqueue_owedWrites (po : Port) (am : AdmissionMode) (m : RequestMsg) (sn : Snapshot) : (po.enqueue am m sn).owedWrites = po.owedWrites := rfl
@[simp] theorem Port.enqueue_config (po : Port) (am : AdmissionMode) (m : RequestMsg) (sn : Snapshot) : (po.enqueue am m sn).config = po.config := rfl
@[simp] theorem Port.enqueue_resetLow (po : Port) (am : AdmissionMode) (m : RequestMsg) (sn : Snapshot) : (po.enqueue am m sn).resetLow = po.resetLow := rfl
@[simp] theorem Port.enqueue_reqOffers (po : Port) (am : AdmissionMode) (m : RequestMsg) (sn : Snapshot) : (po.enqueue am m sn).reqOffers = po.reqOffers := rfl
@[simp] theorem Port.enqueue_dataOffers (po : Port) (am : AdmissionMode) (m : RequestMsg) (sn : Snapshot) : (po.enqueue am m sn).dataOffers = po.dataOffers := rfl
@[simp] theorem Port.enqueue_rsp (po : Port) (am : AdmissionMode) (m : RequestMsg) (sn : Snapshot) : (po.enqueue am m sn).rsp = po.rsp := rfl
@[simp] theorem Port.done_rsp (po : Port) (t : Tag) (st : DoneStatus) : (po.done t st).rsp = po.rsp ++ [.done t st] := rfl
@[simp] theorem Port.done_tags (po : Port) (t : Tag) (st : DoneStatus) : (po.done t st).tags = po.tags.setRow t false := rfl
@[simp] theorem Port.send_rsp (po : Port) (m : RspMsg) : (po.send m).rsp = po.rsp ++ [m] := rfl
@[simp] theorem Port.addTag_tags (po : Port) (t : Tag) : (po.addTag t).tags = po.tags.setRow t true := rfl
@[simp] theorem Port.enqueue_queue (po : Port) (am : AdmissionMode) (m : RequestMsg) (sn : Snapshot) :
    (po.enqueue am m sn).queue = po.queue ++ [newEntry am m sn] := rfl
@[simp] theorem Port.enqueue_list (po : Port) (am : AdmissionMode) (m : RequestMsg) (sn : Snapshot) :
    (po.enqueue am m sn).list
      = po.list ++ newRecord m (if sn.disposition = .issue then .store else .sink) (some m.tag) := rfl
@[simp] theorem Port.enqueue_tags (po : Port) (am : AdmissionMode) (m : RequestMsg) (sn : Snapshot) :
    (po.enqueue am m sn).tags = po.tags.setRow m.tag true := rfl
@[simp] theorem Port.popData_dataOffers (po : Port) : po.popData.dataOffers = po.dataOffers.tail := rfl
@[simp] theorem Port.modEntry_queue (po : Port) (t : Option Tag) (f : Entry → Entry) :
    (po.modEntry t f).queue = po.queue.map (fun e => if t = some e.tag then f e else e) := rfl

/-! #### advanceList -/

theorem Port.advanceList_queue (po : Port) (m : RecordMode) :
    (po.advanceList m).queue = po.queue
      ∨ ∃ t, (po.advanceList m).queue = po.queue.map (fun e => if t = some e.tag then { e with data := .complete } else e) := by
  unfold Port.advanceList
  split
  · exact .inl rfl
  · split
    · exact .inl rfl
    · exact .inr ⟨_, rfl⟩

@[simp] theorem Port.advanceList_length (po : Port) (m : RecordMode) : (po.advanceList m).queue.length = po.queue.length := by
  rcases Port.advanceList_queue po m with h | ⟨t, h⟩ <;> simp [h]

@[simp] theorem Port.advanceList_tags (po : Port) (m : RecordMode) : (po.advanceList m).tags = po.tags := by
  unfold Port.advanceList; split <;> [skip; split] <;> rfl
@[simp] theorem Port.advanceList_owedReads (po : Port) (m : RecordMode) : (po.advanceList m).owedReads = po.owedReads := by
  unfold Port.advanceList; split <;> [skip; split] <;> rfl
@[simp] theorem Port.advanceList_owedWrites (po : Port) (m : RecordMode) : (po.advanceList m).owedWrites = po.owedWrites := by
  unfold Port.advanceList; split <;> [skip; split] <;> rfl
@[simp] theorem Port.advanceList_config (po : Port) (m : RecordMode) : (po.advanceList m).config = po.config := by
  unfold Port.advanceList; split <;> [skip; split] <;> rfl
@[simp] theorem Port.advanceList_counters (po : Port) (m : RecordMode) : (po.advanceList m).counters = po.counters := by
  unfold Port.advanceList; split <;> [skip; split] <;> rfl
@[simp] theorem Port.advanceList_resetLow (po : Port) (m : RecordMode) : (po.advanceList m).resetLow = po.resetLow := by
  unfold Port.advanceList; split <;> [skip; split] <;> rfl
@[simp] theorem Port.advanceList_reqOffers (po : Port) (m : RecordMode) : (po.advanceList m).reqOffers = po.reqOffers := by
  unfold Port.advanceList; split <;> [skip; split] <;> rfl
@[simp] theorem Port.advanceList_dataOffers (po : Port) (m : RecordMode) : (po.advanceList m).dataOffers = po.dataOffers := by
  unfold Port.advanceList; split <;> [skip; split] <;> rfl
@[simp] theorem Port.advanceList_rsp (po : Port) (m : RecordMode) : (po.advanceList m).rsp = po.rsp := by
  unfold Port.advanceList; split <;> [skip; split] <;> rfl

end Sys2Proof.Machine
end

