-- ==== Sys2Proof/Laws/Ops.lean ====
section
/-! SUPPORT. What the shared operations can do: offering a waiting unit again, releasing buffer units, freeing every slot,
receiving a management frame. -/

namespace Sys2Proof.Machine

/-- A property kept by every step of a left fold holds at its end. -/
theorem foldl_keeps {α β : Type} {P : β → Prop} {f : β → α → β} (h : ∀ b a, P b → P (f b a)) :
    ∀ (l : List α) (b : β), P b → P (l.foldl f b)
  | [], _, hb => hb
  | a :: l, b, hb => foldl_keeps h l (f b a) (h b a hb)

/-! ### The write data buffer -/

/-- A good unit waits at port `p` for the oldest record, which stores it, and a buffer unit can be given to it (R119). -/
structure State.CanStore (s : State) (p : PortId) (u : WriteUnitMsg) (us : List WriteUnitMsg) (r : ListRecord)
    (rs : List ListRecord) : Prop where
  rst : s.rstLow = false
  line : (s.ports.row p).resetLow = false
  offers : (s.ports.row p).dataOffers = u :: us
  records : (s.ports.row p).list = r :: rs
  store : r.mode = .store
  good : u.bad = false
  room : s.bufferRoom p = true

/-- Offering again either changes nothing or stores the waiting unit. -/
theorem State.offerAgain_cases (s : State) (q : PortId) :
    s.offerAgain q = s ∨ ∃ u us r rs, s.CanStore q u us r rs ∧ s.offerAgain q = s.storeUnit q r u := by
  unfold State.offerAgain
  split
  · next u us r rs hu hr =>
    split
    · next h =>
      simp only [Bool.and_eq_true, Bool.not_eq_true', beq_iff_eq, State.port_eq] at h hu hr
      exact .inr ⟨u, us, r, rs, ⟨h.1.1.1.1, h.1.1.1.2, hu, hr, h.1.1.2, h.1.2, h.2⟩, rfl⟩
    · exact .inl rfl
  · exact .inl rfl

@[simp] theorem BufCounts.release_zero (b : BufCounts) : b.release 0 = b := by simp [BufCounts.release]

/-- A release is the change of the counts followed by the waiting units offered again. -/
theorem State.release_keeps {P : State → Prop} {s : State} {p : PortId} {n : Nat}
    (h0 : P (s.setBuf p ((s.bufCounts p).release n)))
    (h : ∀ t q u us r rs, t.CanStore q u us r rs → P t → P (t.storeUnit q r u)) : P (s.release p n) := by
  unfold State.release
  split
  · next hn => subst hn; simpa [State.setBuf] using h0
  · refine foldl_keeps (fun t q ht => ?_) _ _ h0
    rcases t.offerAgain_cases q with e | ⟨u, us, r, rs, hc, e⟩
    · rwa [e]
    · rw [e]; exact h t q u us r rs hc ht

/-- A release changes the buffer counts and the ports alone; of the ports only queues' contents, lists and data offers. -/
structure State.SameButStored (s t : State) : Prop where
  regions : t.regions = s.regions
  accounts : t.accounts = s.accounts
  ticks : t.ticks = s.ticks
  pointer : t.pointer = s.pointer
  slots : t.slots = s.slots
  timing : t.timing = s.timing
  link : t.link = s.link
  chk : t.chk = s.chk
  mode : t.mode = s.mode
  mgmt : t.mgmt = s.mgmt
  rstLow : t.rstLow = s.rstLow
  mlDn : t.mlDn = s.mlDn
  pending : t.pending = s.pending
  tags : ∀ p, (t.ports.row p).tags = (s.ports.row p).tags
  owedReads : ∀ p, (t.ports.row p).owedReads = (s.ports.row p).owedReads
  owedWrites : ∀ p, (t.ports.row p).owedWrites = (s.ports.row p).owedWrites
  config : ∀ p, (t.ports.row p).config = (s.ports.row p).config
  counters : ∀ p, (t.ports.row p).counters = (s.ports.row p).counters
  resetLow : ∀ p, (t.ports.row p).resetLow = (s.ports.row p).resetLow
  reqOffers : ∀ p, (t.ports.row p).reqOffers = (s.ports.row p).reqOffers
  rsp : ∀ p, (t.ports.row p).rsp = (s.ports.row p).rsp
  depth : ∀ p, (t.ports.row p).queue.length = (s.ports.row p).queue.length

theorem State.storeUnit_same {s t : State} (h : s.SameButStored t) (q : PortId) (r : ListRecord) (u : WriteUnitMsg) :
    s.SameButStored (t.storeUnit q r u) := by
  constructor <;> first
    | (intro p; simp only [State.storeUnit, State.modPort_ports, State.setBuf_ports, Tab.row_modRow]; split <;> simp [h.tags,
        h.owedReads, h.owedWrites, h.config, h.counters, h.resetLow, h.reqOffers, h.rsp, h.depth, *])
    | (simp [State.storeUnit, h.regions, h.accounts, h.ticks, h.pointer, h.slots, h.timing, h.link, h.chk, h.mode, h.mgmt,
        h.rstLow, h.mlDn, h.pending])

theorem State.release_same (s : State) (p : PortId) (n : Nat) : s.SameButStored (s.release p n) :=
  State.release_keeps (P := s.SameButStored) (by constructor <;> simp)
    (fun t q _ _ r _ _ ht => State.storeUnit_same ht q r _)

/-! ### Freeing every slot (R84) -/

theorem State.abortSlot_slots (s : State) (i : SlotId) : (s.abortSlot i).slots = s.slots.setRow i Slot.reset := by
  simp only [State.abortSlot]; split <;> simp

/-- Freeing every slot changes the slots and the ports alone; of the ports only tags, owed counts, counters and what is sent. -/
structure State.SameButFreed (s t : State) : Prop where
  regions : t.regions = s.regions
  accounts : t.accounts = s.accounts
  ticks : t.ticks = s.ticks
  pointer : t.pointer = s.pointer
  timing : t.timing = s.timing
  link : t.link = s.link
  buffer : t.buffer = s.buffer
  chk : t.chk = s.chk
  mode : t.mode = s.mode
  mgmt : t.mgmt = s.mgmt
  rstLow : t.rstLow = s.rstLow
  mlDn : t.mlDn = s.mlDn
  pending : t.pending = s.pending
  queue : ∀ p, (t.ports.row p).queue = (s.ports.row p).queue
  list : ∀ p, (t.ports.row p).list = (s.ports.row p).list
  config : ∀ p, (t.ports.row p).config = (s.ports.row p).config
  resetLow : ∀ p, (t.ports.row p).resetLow = (s.ports.row p).resetLow
  reqOffers : ∀ p, (t.ports.row p).reqOffers = (s.ports.row p).reqOffers
  dataOffers : ∀ p, (t.ports.row p).dataOffers = (s.ports.row p).dataOffers

theorem State.abortSlot_same {s t : State} (h : s.SameButFreed t) (i : SlotId) : s.SameButFreed (t.abortSlot i) := by
  unfold State.abortSlot
  split
  · constructor <;> first
      | (intro p; simp only [State.freeSlot_ports, State.answerSlot_ports, Tab.row_modRow]; split <;> simp [h.queue, h.list,
          h.config, h.resetLow, h.reqOffers, h.dataOffers, *])
      | (simp [h.regions, h.accounts, h.ticks, h.pointer, h.timing, h.link, h.buffer, h.chk, h.mode, h.mgmt, h.rstLow, h.mlDn,
          h.pending])
  · constructor <;> simp [h.regions, h.accounts, h.ticks, h.pointer, h.timing, h.link, h.buffer, h.chk, h.mode, h.mgmt, h.rstLow,
      h.mlDn, h.pending, h.queue, h.list, h.config, h.resetLow, h.reqOffers, h.dataOffers]

theorem State.freeAllSlots_same (s : State) : s.SameButFreed s.freeAllSlots :=
  foldl_keeps (P := s.SameButFreed) (fun _ i ht => State.abortSlot_same ht i) _ _ (by constructor <;> simp)

theorem State.foldl_abortSlot_slots (l : List SlotId) (s : State) (j : SlotId) :
    (l.foldl State.abortSlot s).slots.row j = if j ∈ l then Slot.reset else s.slots.row j := by
  induction l generalizing s with
  | nil => simp
  | cons i l ih =>
    rw [List.foldl_cons, ih, State.abortSlot_slots, Tab.row_setRow]
    by_cases h1 : j ∈ l <;> by_cases h2 : j = i <;> simp [h1, h2]

/-- After the freeing of all slots every slot is at its reset values (R68, R84). -/
@[simp] theorem State.freeAllSlots_slots (s : State) (j : SlotId) : s.freeAllSlots.slots.row j = Slot.reset := by
  simp [State.freeAllSlots, State.foldl_abortSlot_slots]

/-- A property that aborting one slot keeps is kept by the freeing of all slots. -/
theorem State.freeAllSlots_keeps {P : State → Prop} (h : ∀ s i, P s → P (s.abortSlot i)) {s : State} (hs : P s) :
    P s.freeAllSlots := foldl_keeps h _ _ hs

/-! ### Management frames (R152) -/

@[simp] theorem Transaction.received_idle : Transaction.idle.received = [] := rfl
@[simp] theorem Transaction.received_begun (r : List Byte) : (Transaction.begun r).received = r := rfl
@[simp] theorem Transaction.received_answered (c r : List Byte) : (Transaction.answered c r).received = c := rfl
@[simp] theorem Transaction.position_begun (r : List Byte) : (Transaction.begun r).position = r.length := rfl
@[simp] theorem Transaction.awaits_idle (frame : List Byte) : Transaction.idle.awaits frame = false := rfl
@[simp] theorem Transaction.awaits_answered (c r frame : List Byte) : (Transaction.answered c r).awaits frame = false := rfl

/-- A transaction awaits a frame exactly when it has begun with a proper part of it received. -/
theorem Transaction.awaits_iff {t : Transaction} {frame : List Byte} :
    t.awaits frame = true ↔ ∃ received rest, t = .begun received ∧ rest ≠ [] ∧ frame = received ++ rest := by
  cases t with
  | idle => simp [Transaction.awaits]
  | answered c r => simp [Transaction.awaits]
  | begun r =>
    simp only [Transaction.awaits, Bool.and_eq_true, List.isPrefixOf_iff_prefix, decide_eq_true_eq, Transaction.begun.injEq]
    constructor
    · rintro ⟨⟨rest, rfl⟩, h⟩
      exact ⟨r, rest, rfl, by rintro rfl; simp at h, rfl⟩
    · rintro ⟨_, rest, rfl, h, rfl⟩
      exact ⟨⟨rest, rfl⟩, by simpa using List.length_pos_iff.mpr h⟩

/-- A transaction in which nothing is received yet awaits every frame. -/
theorem Transaction.awaits_nil {frame : List Byte} (h : frame ≠ []) : (Transaction.begun []).awaits frame = true :=
  Transaction.awaits_iff.mpr ⟨[], frame, rfl, h, rfl⟩

/-- For a command that has a frame, the two words for "it can be received next" agree. -/
theorem State.awaits_iff {s : State} {c : Instr} {frame : List Byte} (h : encodeFrame c = some frame) :
    s.awaits c ↔ s.mgmt.transaction.awaits frame = true := by
  rw [Transaction.awaits_iff]
  simp only [State.awaits, h, Option.some.injEq]

/-- A frame that is awaited is carried out and answered. -/
theorem State.onFrame_awaited {s : State} {frame : List Byte} (h : s.mgmt.transaction.awaits frame = true) (len : Nat)
    (f : State → Answer) : s.onFrame frame len f = (f s).state.respond frame len (f s).status (f s).payload := if_pos h

/-- A frame that is not awaited changes nothing. -/
theorem State.onFrame_unawaited {s : State} {frame : List Byte} (h : s.mgmt.transaction.awaits frame = false) (len : Nat)
    (f : State → Answer) : s.onFrame frame len f = s := if_neg (by simp [h])

/-- A command that is awaited is carried out, and its response is the one of its status and payload. -/
theorem State.onCommand_awaited {s : State} {c : Instr} (h : s.awaits c) (f : State → Answer) :
    s.onCommand c f
      = (f s).state.answered c (f s).status
          (payloadUnder (f s).status (responseLength (((encodeFrame c).getD []).headD 0)) (f s).payload) := by
  obtain ⟨received, rest, _, _, hf⟩ := id h
  rw [State.awaits_iff hf] at h
  simp only [State.onCommand, hf, Option.getD_some, State.onFrame_awaited h]
  simp only [State.respond, State.answered, hf, Option.getD_some]
  rfl

/-- A command that is not awaited changes nothing. -/
theorem State.onCommand_unawaited {s : State} {c : Instr} {frame : List Byte} (hf : encodeFrame c = some frame)
    (h : ¬s.awaits c) (f : State → Answer) : s.onCommand c f = s := by
  rw [State.awaits_iff hf, Bool.not_eq_true] at h
  simp only [State.onCommand, hf, Option.getD_some, State.onFrame_unawaited h]

end Sys2Proof.Machine
end

