-- ==== Sys2Proof/Laws/Own.lean ====
section
/-! SUPPORT. What `nextDue`, `settle` and `finish` can do: the guard of each due event, one induction principle, and the parts
of the state that no due event touches. -/

namespace Sys2Proof.Machine

/-! ### Guards of the due events -/

/-- The condition under which a due event is due. -/
def State.DueHolds (s : State) : Due → Prop
  | .retire p => ∃ st, s.retireStatus p = some st
  | .unit p => s.unitDue p = true
  | .request p => s.requestDue p = true
  | .mark p => s.markIsDue p = true
  | .timeout i => s.timeoutIsDue i = true
  | .detached i => s.detachedIsDue i = true
  | .expiry i => s.expiryIsDue i = true
  | .drain => s.drainIsDue = true

theorem State.slotDue_holds {s : State} {i : SlotId} {d : Due} (h : s.slotDue i = some d) : s.DueHolds d := by
  unfold State.slotDue at h
  split at h
  · cases h; assumption
  · split at h
    · cases h; assumption
    · split at h
      · cases h; assumption
      · cases h

/-- What is found due is due. -/
theorem State.nextDue_holds {s : State} {d : Due} (h : s.nextDue = some d) : s.DueHolds d := by
  unfold State.nextDue at h
  split at h
  · next p hp =>
    cases h
    have := List.find?_some hp
    exact Option.isSome_iff_exists.mp this
  · split at h
    · next p hp => cases h; exact List.find?_some hp
    · split at h
      · next p hp => cases h; exact List.find?_some hp
      · split at h
        · next p hp => cases h; exact List.find?_some hp
        · split at h
          · next d' hd =>
            cases h
            obtain ⟨i, -, hi⟩ := List.exists_of_findSome?_eq_some hd
            exact State.slotDue_holds hi
          · split at h
            · next hd => cases h; exact hd
            · cases h

/-- Nothing is due when every condition fails. -/
theorem State.nextDue_none {s : State} (h : ∀ d, ¬ s.DueHolds d) : s.nextDue = none := by
  cases e : s.nextDue with
  | none => rfl
  | some d => exact absurd (State.nextDue_holds e) (h d)

/-! ### Induction over the due events taken -/

theorem settleWith_keeps {P : State → Prop} (h : ∀ s d, s.DueHolds d → P s → P (s.takeDue d)) :
    ∀ (n : Nat) (s : State), P s → P (settleWith n s)
  | 0, _, hs => hs
  | n + 1, s, hs => by
    unfold settleWith
    split
    · exact hs
    · next d hd => exact settleWith_keeps h n _ (h s d (State.nextDue_holds hd) hs)

/-- A property that every due event keeps is kept by taking all of them. -/
theorem State.settle_keeps {P : State → Prop} (h : ∀ s d, s.DueHolds d → P s → P (s.takeDue d)) {s : State} (hs : P s) :
    P s.settle := settleWith_keeps h _ s hs

theorem State.finish_keeps {P : State → Prop} (h : ∀ s d, s.DueHolds d → P s → P (s.takeDue d)) {s : State} (hs : P s) :
    P s.finish := by
  unfold State.finish
  split
  · exact hs
  · exact State.settle_keeps h hs

theorem State.settle_of_nothing_due {s : State} (h : s.nextDue = none) : s.settle = s := by
  unfold State.settle
  cases s.dueBound <;> simp [settleWith, h]

/-- Nothing due, nothing taken. -/
theorem State.finish_of_nothing_due {s : State} (h : s.nextDue = none) : s.finish = s := by
  unfold State.finish
  split
  · rfl
  · exact State.settle_of_nothing_due h

theorem State.finish_of_ownEventNext {s : State} (h : s.ownEventNext = true) : s.finish = s := if_pos h

/-! ### The due events one by one -/

/-- A retirement with a status: the head goes and its units are released. -/
theorem State.retire_eq {s : State} {p : PortId} {st : DoneStatus} {e : Entry} {rest : List Entry}
    (h : (s.ports.row p).queue = e :: rest) :
    s.retire p st
      = (s.modPort p (fun po => ({ po with queue := rest }.done e.tag st).countDone st)).release p e.held.length := by
  unfold State.retire
  simp only [State.port_eq, h]

/-- A retirement is due only at a head. -/
theorem State.retireStatus_head {s : State} {p : PortId} {st : DoneStatus} (h : s.retireStatus p = some st) :
    ∃ e rest, (s.ports.row p).queue = e :: rest := by
  unfold State.retireStatus at h
  split at h
  · cases h
  · next e rest hq => exact ⟨e, rest, hq⟩

theorem State.retireDue_eq {s : State} {p : PortId} {st : DoneStatus} (h : s.retireStatus p = some st) :
    s.retireDue p = s.retire p st := by simp [State.retireDue, h]

/-! ### What no due event touches -/

/-- The parts of the state that no due event touches. -/
structure State.SameButDue (s t : State) : Prop where
  regions : t.regions = s.regions
  accounts : t.accounts = s.accounts
  ticks : t.ticks = s.ticks
  pointer : t.pointer = s.pointer
  timing : t.timing = s.timing
  mgmt : t.mgmt = s.mgmt
  rstLow : t.rstLow = s.rstLow
  mlDn : t.mlDn = s.mlDn
  pending : t.pending = s.pending
  config : ∀ p, (t.ports.row p).config = (s.ports.row p).config
  resetLow : ∀ p, (t.ports.row p).resetLow = (s.ports.row p).resetLow

theorem State.SameButDue.refl (s : State) : s.SameButDue s := by constructor <;> simp

theorem State.SameButDue.trans {s t u : State} (h : s.SameButDue t) (k : t.SameButDue u) : s.SameButDue u where
  regions := k.regions.trans h.regions
  accounts := k.accounts.trans h.accounts
  ticks := k.ticks.trans h.ticks
  pointer := k.pointer.trans h.pointer
  timing := k.timing.trans h.timing
  mgmt := k.mgmt.trans h.mgmt
  rstLow := k.rstLow.trans h.rstLow
  mlDn := k.mlDn.trans h.mlDn
  pending := k.pending.trans h.pending
  config p := (k.config p).trans (h.config p)
  resetLow p := (k.resetLow p).trans (h.resetLow p)

theorem State.SameButStored.due {s t : State} (h : s.SameButStored t) : s.SameButDue t :=
  ⟨h.regions, h.accounts, h.ticks, h.pointer, h.timing, h.mgmt, h.rstLow, h.mlDn, h.pending, h.config, h.resetLow⟩

/-- A change of one port that keeps its configuration and its reset line. -/
theorem State.modPort_sameButDue (s : State) (p : PortId) (f : Port → Port) (hc : ∀ po, (f po).config = po.config)
    (hr : ∀ po, (f po).resetLow = po.resetLow) : s.SameButDue (s.modPort p f) := by
  constructor <;> first
    | (intro q; simp only [State.modPort_ports, Tab.row_modRow]; split <;> [(subst_vars; first | exact hc _ | exact hr _); rfl])
    | simp

theorem State.raise_sameButDue (s : State) (r : ReportMode) (c : Capture) : s.SameButDue (s.raise r c) := by
  constructor <;> simp

theorem State.retire_sameButDue (s : State) (p : PortId) (st : DoneStatus) : s.SameButDue (s.retire p st) := by
  unfold State.retire
  split
  · exact .refl s
  · exact (s.modPort_sameButDue p _ (by simp) (by simp)).trans (State.release_same _ p _).due

theorem State.storeUnit_sameButDue (s : State) (p : PortId) (r : ListRecord) (u : WriteUnitMsg) :
    s.SameButDue (s.storeUnit p r u) :=
  (State.storeUnit_same (by constructor <;> simp : s.SameButStored s) p r u).due

theorem State.takeOfferedUnit_sameButDue (s : State) (p : PortId) : s.SameButDue (s.takeOfferedUnit p) := by
  have hsink : s.SameButDue (s.sinkUnit p) := s.modPort_sameButDue p _ (by simp) (by simp)
  unfold State.takeOfferedUnit
  split
  · exact .refl s
  · exact (s.raise_sameButDue _ _).trans ((s.raise _ _).modPort_sameButDue p _ (by simp) (by simp))
  · split
    · exact hsink
    · split
      · unfold State.parityError
        split
        · exact hsink
        · exact ((s.raise_sameButDue _ _).trans ((s.raise _ _).modPort_sameButDue p _ (by simp) (by simp))).trans
            (State.release_same _ p _).due
      · exact s.storeUnit_sameButDue p _ _

theorem State.takeRequest_sameButDue (s : State) (p : PortId) (m : RequestMsg) : s.SameButDue (s.takeRequest p m) := by
  unfold State.takeRequest
  split
  · exact (s.raise_sameButDue _ _).trans ((s.raise _ _).modPort_sameButDue p _ (by simp) (by simp))
  · unfold State.accept State.raiseRefusal
    split
    · exact s.modPort_sameButDue p _ (by simp) (by simp)
    · exact (s.raise_sameButDue _ _).trans ((s.raise _ _).modPort_sameButDue p _ (by simp) (by simp))

theorem State.takeOfferedRequest_sameButDue (s : State) (p : PortId) : s.SameButDue (s.takeOfferedRequest p) := by
  unfold State.takeOfferedRequest
  split
  · exact .refl s
  · exact (s.modPort_sameButDue p _ (by simp) (by simp)).trans (State.takeRequest_sameButDue _ p _)

theorem State.markHead_sameButDue (s : State) (p : PortId) : s.SameButDue (s.markHead p) :=
  s.modPort_sameButDue p _ (by intro po; split <;> rfl) (by intro po; split <;> rfl)

theorem State.timeoutSlot_sameButDue (s : State) (i : SlotId) : s.SameButDue (s.timeoutSlot i) := by
  have h : s.SameButDue (s.answerSlot (s.slot i) .timeout) := s.modPort_sameButDue _ _ (by simp) (by simp)
  unfold State.timeoutSlot
  exact h.trans ⟨rfl, rfl, rfl, rfl, rfl, rfl, rfl, rfl, rfl, fun _ => rfl, fun _ => rfl⟩

theorem State.SameButFreed.due {s t : State} (h : s.SameButFreed t) : s.SameButDue t :=
  ⟨h.regions, h.accounts, h.ticks, h.pointer, h.timing, h.mgmt, h.rstLow, h.mlDn, h.pending, h.config, h.resetLow⟩

theorem State.linkFail_sameButDue (s : State) : s.SameButDue s.linkFail := by
  unfold State.linkFail
  generalize hl : { s with link := { state := LinkState.failed, epoch := s.link.epoch + 1, advertised := 0 } } = s'
  have h0 : s.SameButDue s' := by subst hl; constructor <;> simp
  refine h0.trans (s'.freeAllSlots_same.due.trans ?_)
  constructor <;> simp

theorem State.takeDue_sameButDue (s : State) (d : Due) : s.SameButDue (s.takeDue d) := by
  cases d with
  | retire p =>
    simp only [State.takeDue, State.retireDue]
    split
    · exact .refl s
    · exact s.retire_sameButDue p _
  | unit p => exact s.takeOfferedUnit_sameButDue p
  | request p => exact s.takeOfferedRequest_sameButDue p
  | mark p => exact s.markHead_sameButDue p
  | timeout i => exact s.timeoutSlot_sameButDue i
  | detached i => constructor <;> simp [State.takeDue]
  | expiry i => exact s.linkFail_sameButDue
  | drain => constructor <;> simp [State.takeDue, State.quiesce]

theorem State.settle_sameButDue (s : State) : s.SameButDue s.settle :=
  State.settle_keeps (P := s.SameButDue) (fun t d _ h => h.trans (t.takeDue_sameButDue d)) (.refl s)

/-- The end of an event leaves all this as it was. -/
theorem State.finish_sameButDue (s : State) : s.SameButDue s.finish :=
  State.finish_keeps (P := s.SameButDue) (fun t d _ h => h.trans (t.takeDue_sameButDue d)) (.refl s)

end Sys2Proof.Machine
end

