-- ==== Sys2Proof/Laws/Settle.lean ====
section
/-! SUPPORT. Every due event taken lowers `dueBound`, the bound on how many due events can follow; so `settle` and `finish` take
the next due event and go on from there. -/

namespace Sys2Proof.Machine

/-- What one port adds to `dueBound`. -/
def Port.weight (po : Port) : Nat :=
  po.queue.length + po.dataOffers.length + 2 * po.reqOffers.length + (po.queue.filter (·.markDue)).length

/-- What the ports add to `dueBound`. -/
def State.portsWeight (s : State) : Nat := (allPorts.map (fun p => (s.ports.row p).weight)).sum

/-- What the slots add to `dueBound`. -/
def State.slotsWeight (s : State) : Nat := (s.slots.toList.filter (·.due)).length

/-- What the mode adds to `dueBound`. -/
def State.drainWeight (s : State) : Nat := if s.mode = .draining then 1 else 0

theorem State.dueBound_eq (s : State) : s.dueBound = s.portsWeight + s.slotsWeight + s.drainWeight := rfl

/-! ### Weights of ports -/

theorem State.portsWeight_modPort (s : State) (p : PortId) (f : Port → Port) :
    (s.modPort p f).portsWeight + (s.ports.row p).weight = s.portsWeight + (f (s.ports.row p)).weight := by
  simp only [State.portsWeight, allPorts, List.map_cons, List.map_nil, List.sum_cons, List.sum_nil, State.modPort_ports,
    Tab.row_modRow]
  match p with
  | 0 => simp; omega
  | 1 => simp; omega
  | 2 => simp; omega
  | 3 => simp; omega

theorem filter_map_same {l : List Entry} {g : Entry → Entry} (h : ∀ e, (g e).markDue = e.markDue) :
    ((l.map g).filter (·.markDue)).length = (l.filter (·.markDue)).length := by
  simp only [List.filter_map, List.length_map]
  congr 1
  exact List.filter_congr (fun e _ => h e)

theorem Port.weight_modEntry (po : Port) (t : Option Tag) (f : Entry → Entry) (h : ∀ e, (f e).markDue = e.markDue) :
    (po.modEntry t f).weight = po.weight := by
  have : ((po.modEntry t f).queue.filter (·.markDue)).length = (po.queue.filter (·.markDue)).length :=
    filter_map_same (fun e => by split <;> simp [h])
  unfold Port.weight
  rw [this]
  simp

theorem Port.weight_advanceList (po : Port) (m : RecordMode) : (po.advanceList m).weight = po.weight := by
  have : ((po.advanceList m).queue.filter (·.markDue)).length = (po.queue.filter (·.markDue)).length := by
    rcases Port.advanceList_queue po m with h | ⟨t, h⟩ <;> rw [h]
    exact filter_map_same (fun e => by split <;> rfl)
  unfold Port.weight
  rw [this]
  simp

theorem Port.weight_popData (po : Port) (h : po.dataOffers ≠ []) : po.popData.weight + 1 = po.weight := by
  have : 0 < po.dataOffers.length := List.length_pos_iff.mpr h
  simp only [Port.weight, Port.popData_queue, Port.popData_dataOffers, Port.popData_reqOffers, List.length_tail]
  omega

theorem Port.weight_done (po : Port) (t : Tag) (st : DoneStatus) : ((po.done t st).countDone st).weight = po.weight := by
  simp [Port.weight]

/-! ### Weights of the operations -/

theorem State.dueBound_modPort (s : State) (p : PortId) (f : Port → Port) :
    (s.modPort p f).dueBound + (s.ports.row p).weight = s.dueBound + (f (s.ports.row p)).weight := by
  have h := s.portsWeight_modPort p f
  have h1 : (s.modPort p f).slotsWeight = s.slotsWeight := rfl
  have h2 : (s.modPort p f).drainWeight = s.drainWeight := rfl
  simp only [State.dueBound_eq, h1, h2]
  omega

/-- A change of one port that lowers its weight by `k` lowers the bound by `k`. -/
theorem State.dueBound_modPort_add {s : State} {p : PortId} {f : Port → Port} {k : Nat}
    (h : (f (s.ports.row p)).weight + k = (s.ports.row p).weight) : (s.modPort p f).dueBound + k = s.dueBound := by
  have := s.dueBound_modPort p f
  omega

/-- A change of one port that keeps its weight keeps the bound. -/
theorem State.dueBound_modPort_same {s : State} {p : PortId} {f : Port → Port}
    (h : (f (s.ports.row p)).weight = (s.ports.row p).weight) : (s.modPort p f).dueBound = s.dueBound := by
  have := s.dueBound_modPort p f
  omega

theorem State.dueBound_storeUnit {s : State} {p : PortId} (r : ListRecord) (u : WriteUnitMsg)
    (h : (s.ports.row p).dataOffers ≠ []) : (s.storeUnit p r u).dueBound + 1 = s.dueBound :=
  State.dueBound_modPort_add (s := s.setBuf p (s.bufCounts p).give) (by
    rw [Port.weight_advanceList,
      Port.weight_modEntry _ _ (fun e => { e with held := e.held ++ [{ data := u.data, mask := u.mask }] }) (fun _ => rfl)]
    exact Port.weight_popData _ h)

theorem State.dueBound_release (s : State) (p : PortId) (n : Nat) : (s.release p n).dueBound ≤ s.dueBound := by
  refine State.release_keeps (P := fun t => t.dueBound ≤ s.dueBound) (Nat.le_refl _) (fun t q u us r rs hc ht => ?_)
  have := State.dueBound_storeUnit (s := t) (p := q) r u (by simp [hc.offers])
  omega

theorem State.dueBound_setSlot (s : State) (i : SlotId) (x : Slot) :
    (s.setSlot i x).dueBound + (if (s.slots.row i).due then 1 else 0) = s.dueBound + (if x.due then 1 else 0) := by
  have h := Tab.count_setRow s.slots i x (·.due)
  have h1 : (s.setSlot i x).portsWeight = s.portsWeight := rfl
  have h2 : (s.setSlot i x).slotsWeight = ((s.slots.setRow i x).toList.filter (·.due)).length := rfl
  have h3 : s.slotsWeight = (s.slots.toList.filter (·.due)).length := rfl
  have h4 : (s.setSlot i x).drainWeight = s.drainWeight := rfl
  simp only [State.dueBound_eq, h1, h2, h3, h4]
  omega

theorem State.dueBound_orphanSlot {s : State} {i : SlotId} (h : (s.slots.row i).due = true) :
    (s.orphanSlot i).dueBound + 1 = s.dueBound := by
  have := s.dueBound_setSlot i
    { s.slots.row i with state := .orphaned, orphanTick := some s.ticks.stamp, timeOrphaned := 0, due := false }
  rw [if_pos h, if_neg (by simp)] at this
  exact this

theorem State.dueBound_raise (s : State) (r : ReportMode) (c : Capture) : (s.raise r c).dueBound = s.dueBound := rfl

theorem State.dueBound_alert (s : State) (c : Cause) : (s.alert c).dueBound = s.dueBound := rfl

theorem State.dueBound_answerSlot (s : State) (sl : Slot) (st : DoneStatus) : (s.answerSlot sl st).dueBound = s.dueBound :=
  State.dueBound_modPort_same (by simp [Port.weight])

theorem State.dueBound_freeSlot (s : State) (i : SlotId) :
    (s.freeSlot i).dueBound + (if (s.slots.row i).due then 1 else 0) = s.dueBound := s.dueBound_setSlot i Slot.reset

theorem State.dueBound_abortSlot (s : State) (i : SlotId) :
    (s.abortSlot i).dueBound + (if (s.slots.row i).due then 1 else 0) = s.dueBound := by
  unfold State.abortSlot
  split
  · exact ((s.answerSlot (s.slot i) .aborted).dueBound_freeSlot i).trans (State.dueBound_answerSlot _ _ _)
  · exact s.dueBound_freeSlot i

theorem State.dueBound_foldl_abortSlot (l : List SlotId) (s : State) :
    (l.foldl State.abortSlot s).dueBound ≤ s.dueBound :=
  foldl_keeps (P := fun t => t.dueBound ≤ s.dueBound)
    (fun t i ht => by have := t.dueBound_abortSlot i; omega) l s (Nat.le_refl _)

theorem State.dueBound_freeAllSlots {s : State} {i : SlotId} (h : (s.slots.row i).due = true) :
    s.freeAllSlots.dueBound < s.dueBound := by
  have hp : s.freeAllSlots.portsWeight ≤ s.portsWeight := by
    have : ∀ (l : List SlotId) (t : State), (l.foldl State.abortSlot t).portsWeight = t.portsWeight := by
      intro l t
      refine foldl_keeps (P := fun u => u.portsWeight = t.portsWeight) (fun u j hu => ?_) l t rfl
      rw [← hu]
      unfold State.abortSlot
      split
      · have := u.portsWeight_modPort (u.slot j).port
          (fun po => ((po.done (u.slot j).tag .aborted).unowe (u.slot j).dir).countDone .aborted)
        have hw : ((((u.ports.row (u.slot j).port).done (u.slot j).tag .aborted).unowe (u.slot j).dir).countDone
            DoneStatus.aborted).weight = (u.ports.row (u.slot j).port).weight := by simp [Port.weight]
        have e : ((u.answerSlot (u.slot j) .aborted).freeSlot j).portsWeight = (u.answerSlot (u.slot j) .aborted).portsWeight := rfl
        rw [e]; unfold State.answerSlot; omega
      · rfl
    exact Nat.le_of_eq (this _ _)
  have hs : s.freeAllSlots.slotsWeight = 0 := by
    unfold State.slotsWeight
    rw [List.length_eq_zero_iff, List.filter_eq_nil_iff]
    intro sl hm
    obtain ⟨j, rfl⟩ := (Tab.mem_toList _ _).mp hm
    simp [Slot.reset]
  have h0 : 0 < s.slotsWeight := by
    unfold State.slotsWeight
    rw [List.length_pos_iff]
    intro hn
    have := List.filter_eq_nil_iff.mp hn (s.slots.row i) ((Tab.mem_toList _ _).mpr ⟨i, rfl⟩)
    exact this h
  have hm : s.freeAllSlots.drainWeight = s.drainWeight := by simp [State.drainWeight, s.freeAllSlots_same.mode]
  simp only [State.dueBound_eq, hs, hm]
  omega

/-! ### Every due event lowers the bound -/

theorem State.dueBound_retire {s : State} {p : PortId} {st : DoneStatus} (h : s.retireStatus p = some st) :
    (s.retire p st).dueBound < s.dueBound := by
  obtain ⟨e, rest, hq⟩ := State.retireStatus_head h
  rw [State.retire_eq hq]
  refine Nat.lt_of_le_of_lt (State.dueBound_release _ p _) ?_
  have hm := s.dueBound_modPort p (fun po => ({ po with queue := rest }.done e.tag st).countDone st)
  have hw : (({ s.ports.row p with queue := rest } : Port).done e.tag st |>.countDone st).weight + 1
      ≤ (s.ports.row p).weight := by
    simp only [Port.weight, hq, List.length_cons, List.filter_cons]
    split
    · simp; omega
    · simp
  exact Nat.lt_of_add_lt_add_right (Nat.lt_of_le_of_lt (Nat.le_of_eq hm) (Nat.add_lt_add_left hw _))

theorem State.dueBound_sinkUnit {s : State} {p : PortId} (h : (s.ports.row p).dataOffers ≠ []) :
    (s.sinkUnit p).dueBound + 1 = s.dueBound :=
  State.dueBound_modPort_add (by rw [Port.weight_advanceList]; exact Port.weight_popData _ h)

theorem State.dueBound_parityError {s : State} {p : PortId} (r : ListRecord) (h : (s.ports.row p).dataOffers ≠ []) :
    (s.parityError p r).dueBound + 1 ≤ s.dueBound := by
  unfold State.parityError
  split
  · exact Nat.le_of_eq (State.dueBound_sinkUnit h)
  · next e _ =>
    have hm : ((s.raiseParity p e).modPort p (fun po =>
        (po.popData.modEntry r.entry (fun e => { e with disposition := .dataerr, held := [] })).advanceList .sink)).dueBound + 1
        = s.dueBound :=
      State.dueBound_modPort_add (s := s.raiseParity p e) (by
        rw [Port.weight_advanceList, Port.weight_modEntry _ _ (fun e => { e with disposition := .dataerr, held := [] })
          (fun _ => rfl)]
        exact Port.weight_popData _ h)
    exact Nat.le_trans (Nat.add_le_add_right (State.dueBound_release _ p _) 1) (Nat.le_of_eq hm)

theorem State.dueBound_takeOfferedUnit {s : State} {p : PortId} (h : s.unitDue p = true) :
    (s.takeOfferedUnit p).dueBound + 1 ≤ s.dueBound := by
  have hne : (s.ports.row p).dataOffers ≠ [] := by
    intro hn
    simp [State.unitDue, hn] at h
  unfold State.takeOfferedUnit
  split
  · next hn => exact absurd hn hne
  · exact Nat.le_of_eq (State.dueBound_modPort_add (s := s.raise _ _) (Port.weight_popData _ hne))
  · split
    · exact Nat.le_of_eq (State.dueBound_sinkUnit hne)
    · split
      · exact State.dueBound_parityError _ hne
      · exact Nat.le_of_eq (State.dueBound_storeUnit _ _ hne)

theorem Port.weight_enqueue (po : Port) (am : AdmissionMode) (m : RequestMsg) (sn : Snapshot) :
    (po.enqueue am m sn).weight = po.weight + 1 := by
  simp only [Port.weight, Port.enqueue_queue, Port.enqueue_dataOffers, Port.enqueue_reqOffers, List.length_append,
    List.filter_append, List.length_singleton]
  simp [newEntry]
  omega

theorem State.dueBound_takeRequest (s : State) (p : PortId) (m : RequestMsg) :
    (s.takeRequest p m).dueBound ≤ s.dueBound + 1 := by
  unfold State.takeRequest
  split
  · unfold State.rejectDuplicate
    rw [State.dueBound_modPort_same (by rfl), State.dueBound_raise]
    exact Nat.le_succ _
  · have hr : (s.raiseRefusal p m (s.snapshotOf p m)).dueBound = s.dueBound := by
      unfold State.raiseRefusal; split <;> rfl
    have h2 := (s.raiseRefusal p m (s.snapshotOf p m)).dueBound_modPort p
      (fun po => po.enqueue s.mode.admission m (s.snapshotOf p m))
    rw [Port.weight_enqueue] at h2
    unfold State.accept
    omega

theorem State.dueBound_takeOfferedRequest {s : State} {p : PortId} (h : s.requestDue p = true) :
    (s.takeOfferedRequest p).dueBound + 1 ≤ s.dueBound := by
  unfold State.takeOfferedRequest
  split
  · next hn => simp only [State.port_eq] at hn; simp [State.requestDue, hn] at h
  · next m rest hq =>
    simp only [State.port_eq] at hq
    have hm : (s.modPort p (fun po => { po with reqOffers := rest })).dueBound + 2 = s.dueBound :=
      State.dueBound_modPort_add (by simp only [Port.weight, hq, List.length_cons]; omega)
    have := State.dueBound_takeRequest (s.modPort p (fun po => { po with reqOffers := rest })) p m
    omega

theorem State.dueBound_markHead {s : State} {p : PortId} (h : s.markIsDue p = true) :
    (s.markHead p).dueBound < s.dueBound := by
  unfold State.markIsDue at h
  split at h
  · cases h
  · next e rest hq =>
    simp only [State.port_eq] at hq
    exact Nat.lt_of_succ_le (Nat.le_of_eq (State.dueBound_modPort_add (k := 1) (by
      simp only [hq, Port.weight, List.length_cons, List.filter_cons, h]
      simp
      omega)))

/-- Every due event taken lowers the bound. -/
theorem State.dueBound_takeDue {s : State} {d : Due} (h : s.DueHolds d) : (s.takeDue d).dueBound < s.dueBound := by
  cases d with
  | retire p =>
    obtain ⟨st, hst⟩ := h
    simp only [State.takeDue, State.retireDue_eq hst]
    exact State.dueBound_retire hst
  | unit p => exact State.dueBound_takeOfferedUnit h
  | request p => exact State.dueBound_takeOfferedRequest h
  | mark p => exact State.dueBound_markHead h
  | timeout i =>
    have hd : (s.slots.row i).due = true := by
      simp only [State.DueHolds, State.timeoutIsDue, Bool.and_eq_true, State.slot_eq] at h; exact h.1
    have := ((s.answerSlot (s.slot i) .timeout).raise (s.slot i).report (s.slotCapture .timeout (s.slot i))).dueBound_orphanSlot
      hd
    rw [State.dueBound_raise, State.dueBound_answerSlot] at this
    exact Nat.lt_of_succ_le (Nat.le_of_eq this)
  | detached i =>
    have hd : (s.slots.row i).due = true := by
      simp only [State.DueHolds, State.detachedIsDue, Bool.and_eq_true, State.slot_eq] at h; exact h.1.1
    exact Nat.lt_of_succ_le (Nat.le_of_eq (State.dueBound_orphanSlot hd))
  | expiry i =>
    have hd : (s.slots.row i).due = true := by
      simp only [State.DueHolds, State.expiryIsDue, Bool.and_eq_true, State.slot_eq] at h; exact h.1
    simp only [State.takeDue, State.linkFail, State.dueBound_alert, State.dueBound_raise]
    exact State.dueBound_freeAllSlots
      (s := { s with link := { state := .failed, epoch := s.link.epoch + 1, advertised := 0 } }) hd
  | drain =>
    simp only [State.DueHolds, State.drainIsDue, Bool.and_eq_true, beq_iff_eq] at h
    have e1 : (s.takeDue .drain).portsWeight = s.portsWeight := rfl
    have e2 : (s.takeDue .drain).slotsWeight = s.slotsWeight := rfl
    have e3 : (s.takeDue .drain).drainWeight = 0 := rfl
    have e4 : s.drainWeight = 1 := if_pos h.1
    simp only [State.dueBound_eq, e1, e2, e3, e4]
    omega

/-! ### One due event at a time -/

/-- Enough fuel is as good as any more. -/
theorem settleWith_eq : ∀ (n m : Nat) {s : State}, s.dueBound ≤ n → s.dueBound ≤ m → settleWith n s = settleWith m s
  | 0, m, s, h, _ => by
    have hn : s.nextDue = none := by
      cases hd : s.nextDue with
      | none => rfl
      | some d => have := State.dueBound_takeDue (State.nextDue_holds hd); omega
    cases m <;> simp [settleWith, hn]
  | n + 1, 0, s, _, h => (settleWith_eq 0 (n + 1) h (by omega)).symm
  | n + 1, m + 1, s, hn, hm => by
    cases hd : s.nextDue with
    | none => simp [settleWith, hd]
    | some d =>
      have := State.dueBound_takeDue (State.nextDue_holds hd)
      simp only [settleWith, hd]
      exact settleWith_eq n m (by omega) (by omega)

/-- The next due event is taken, and then the rest. -/
theorem State.settle_next {s : State} {d : Due} (h : s.nextDue = some d) : s.settle = (s.takeDue d).settle := by
  have hb := State.dueBound_takeDue (State.nextDue_holds h)
  obtain ⟨k, hk⟩ : ∃ k, s.dueBound = k + 1 := ⟨s.dueBound - 1, by omega⟩
  rw [State.settle, hk]
  simp only [settleWith, h]
  exact settleWith_eq k _ (by omega) (Nat.le_refl _)

/-- The end of an event takes the next due event, and then ends that one. -/
theorem State.finish_next {s : State} {d : Due} (ho : s.ownEventNext = false) (h : s.nextDue = some d) :
    s.finish = (s.takeDue d).finish := by
  have hp : (s.takeDue d).ownEventNext = false := by
    rw [State.ownEventNext, (s.takeDue_sameButDue d).pending]; exact ho
  simp only [State.finish, ho, hp, Bool.false_eq_true, if_false]
  exact State.settle_next h

end Sys2Proof.Machine
end

