-- ==== Sys2Proof/Laws/Moves.lean ====
section
/-! SUPPORT. What a step can do, said once: `Move` lists every elementary change with the condition under which the part makes
it, and every command's meaning is a chain of moves. A property that every move keeps is kept by every step. -/

namespace Sys2Proof.Machine

/-- The port and slot side of a port reset, its units released (R125). -/
def State.dropPort (s : State) (p : PortId) (withdrawn : Bool) : State :=
  { s.modPort p (fun po => po.portReset withdrawn) with slots := s.slots.mapRows (fun sl => sl.portReset p) }.setBuf p
    ((s.bufCounts p).release ((s.bufCounts p).reserve + (s.bufCounts p).shared))

/-- A retirement without the units offered again (R44). -/
def State.popHead (s : State) (p : PortId) (st : DoneStatus) (e : Entry) (rest : List Entry) : State :=
  (s.modPort p (fun po => ({ po with queue := rest }.done e.tag st).countDone st)).setBuf p ((s.bufCounts p).release e.held.length)

/-- A parity error without the units offered again (R117). -/
def State.markDataerr (s : State) (p : PortId) (r : ListRecord) (e : Entry) : State :=
  ((s.raiseParity p e).modPort p (fun po =>
    (po.popData.modEntry r.entry (fun e => { e with disposition := .dataerr, held := [] })).advanceList .sink)).setBuf p
    ((s.bufCounts p).release e.held.length)

/-- A grant without the units offered again (R58, R59). -/
def State.grantMove (s : State) (t : Tier) (p : PortId) (e : Entry) (rest : List Entry) (i : SlotId) : State :=
  let s' := (s.setSlot i (s.slotFor p e)).sendDn (s.issueFor i e)
  let s' := s'.modPort p (fun po => { po with queue := rest }.owe (dirOf e.kind))
  let s' := { s'.chargeFor e t with pointer := p }
  s'.setBuf p ((s'.bufCounts p).release e.held.length)

/-- An elementary change of the state, with the condition under which the part makes it. -/
inductive Move : State → State → Prop where
  | fullReset (s : State) (w : Bool) : Move s (s.fullReset w)
  | releaseRst (s : State) (h : s.rstLow = true) : Move s s.releaseRst
  | dropPort (s : State) (p : PortId) (w : Bool) : Move s (s.dropPort p w)
  | releaseLine (s : State) (p : PortId) : Move s (s.modPort p (fun po => { po with resetLow := false }))
  | offerRequest (s : State) (p : PortId) (m : RequestMsg) : Move s (s.offerRequest p m)
  | offerUnit (s : State) (p : PortId) (u : WriteUnitMsg) : Move s (s.offerUnit p u)
  | duplicate (s : State) (p : PortId) (m : RequestMsg) (rest : List RequestMsg)
      (hq : (s.ports.row p).reqOffers = m :: rest) (ht : s.takesRequest p m = true)
      (hd : (s.ports.row p).tags.row m.tag = true) :
      Move s ((s.modPort p (fun po => { po with reqOffers := rest })).rejectDuplicate p m)
  | accept (s : State) (p : PortId) (m : RequestMsg) (rest : List RequestMsg)
      (hq : (s.ports.row p).reqOffers = m :: rest) (ht : s.takesRequest p m = true)
      (hd : (s.ports.row p).tags.row m.tag = false) :
      Move s ((s.modPort p (fun po => { po with reqOffers := rest })).accept p m)
  | stray (s : State) (p : PortId) (u : WriteUnitMsg) (us : List WriteUnitMsg)
      (hd : (s.ports.row p).dataOffers = u :: us) (hl : (s.ports.row p).list = []) : Move s (s.strayUnit p)
  | sink (s : State) (p : PortId) (u : WriteUnitMsg) (us : List WriteUnitMsg) (r : ListRecord) (rs : List ListRecord)
      (hd : (s.ports.row p).dataOffers = u :: us) (hl : (s.ports.row p).list = r :: rs)
      (hm : r.mode = .sink ∨ (s.ports.row p).queue.find? (fun e => decide (r.entry = some e.tag)) = none) :
      Move s (s.sinkUnit p)
  | store (s : State) (p : PortId) (u : WriteUnitMsg) (us : List WriteUnitMsg) (r : ListRecord) (rs : List ListRecord)
      (h : s.CanStore p u us r rs) : Move s (s.storeUnit p r u)
  | dataerr (s : State) (p : PortId) (u : WriteUnitMsg) (us : List WriteUnitMsg) (r : ListRecord) (rs : List ListRecord)
      (e : Entry) (hd : (s.ports.row p).dataOffers = u :: us) (hl : (s.ports.row p).list = r :: rs) (hm : r.mode = .store)
      (he : (s.ports.row p).queue.find? (fun e => decide (r.entry = some e.tag)) = some e) : Move s (s.markDataerr p r e)
  | pop (s : State) (p : PortId) (st : DoneStatus) (e : Entry) (rest : List Entry) (hq : (s.ports.row p).queue = e :: rest)
      (hs : s.retireStatus p = some st) : Move s (s.popHead p st e rest)
  | mark (s : State) (p : PortId) : Move s (s.markHead p)
  | timeout (s : State) (i : SlotId) (h : s.timeoutIsDue i = true) : Move s (s.timeoutSlot i)
  | orphan (s : State) (i : SlotId) (h : s.detachedIsDue i = true) : Move s (s.orphanSlot i)
  | linkFail (s : State) (i : SlotId) (h : s.expiryIsDue i = true) : Move s s.linkFail
  | resetLink (s : State) (h : s.mgmt.transaction ≠ .idle) : Move s s.resetLink
  | quiesce (s : State) (h : s.drainIsDue = true) : Move s s.quiesce
  | tick (s : State) (h : s.rstLow = false) : Move s s.tickWork
  | count (s : State) (k : Nat) (hr : s.rstLow = false) (h : s.ticks.count + k < s.ticks.period) :
      Move s { s with ticks := { s.ticks with count := s.ticks.count + k } }
  | grant (s : State) (t : Tier) (p : PortId) (e : Entry) (rest : List Entry) (i : SlotId) (hw : s.winner = some (t, p))
      (hi : s.lowestFree = some i) (hq : (s.ports.row p).queue = e :: rest) : Move s (s.grantMove t p e rest i)
  | raise (s : State) (r : ReportMode) (c : Capture) : Move s (s.raise r c)
  | countStale (s : State) : Move s s.countStale
  | countLate (s : State) : Move s s.countLate
  | goOnline (s : State) (n : Nat) (hr : s.rstLow = false) (hl : s.link.state = .waitCredit) (h1 : 1 ≤ n) (h2 : n ≤ 32) :
      Move s (s.goOnline n)
  | forward (s : State) (p : PortId) (m : RspMsg) : Move s (s.modPort p (fun po => po.send m))
  | progress (s : State) (i : SlotId) (sl : Slot) (hb : (s.slots.row i).busy = true)
      (h : ∃ st rc po, st ≠ .free ∧ (st = .orphaned ↔ (s.slots.row i).state = .orphaned)
        ∧ sl = { s.slots.row i with state := st, received := rc, poisoned := po }) : Move s (s.setSlot i sl)
  | answer (s : State) (i : SlotId) (st : DoneStatus) (h : (s.slots.row i).owes = true) :
      Move s ((s.answerSlot (s.slots.row i) st).freeSlot i)
  | free (s : State) (i : SlotId) (h : (s.slots.row i).owes = false) : Move s (s.freeSlot i)
  | setMgmt (s : State) (m : Mgmt)
      (h : s.rstLow = true → s.mgmt.transaction = .idle → m.transaction = .idle) : Move s { s with mgmt := m }
  | setRegion (s : State) (i : RegionId) (e : RegionEntry) (h : ∃ pl, parseRegion pl = some e) :
      Move s { s with regions := s.regions.setRow i e }
  | writeAccount (s : State) (a : AccountId) (w : AccountWrite) (h : ∃ pl, parseAccount pl = some w) :
      Move s (s.modAccount a (fun r => r.write w))
  | writePort (s : State) (p : PortId) (c : PortConfig) (hm : s.mode = .quiesced) (h : ∃ pl, parsePort pl = some c) :
      Move s (s.modPort p (fun po => { po with config := c }))
  | writeTiming (s : State) (t : TimingWrite) (hm : s.mode = .quiesced) (h : ∃ pl, parseTiming pl = some t) :
      Move s (s.writeTiming t)
  | setMode (s : State) (m : Mode) (h : m = .pass ∨ m = .regulate) (hm : s.mode ≠ .draining) : Move s { s with mode := m }
  | setDraining (s : State) (h : s.mode = .pass ∨ s.mode = .regulate) : Move s { s with mode := .draining }
  | clearRecord (s : State) : Move s { s with chk := { s.chk with record := s.chk.record.clear } }
  | clearGroup (s : State) (g : Group) : Move s (s.clearGroup g)
  | setMask (s : State) (m : AlertSet) : Move s { s with chk := { s.chk with mask := m } }
  | ack (s : State) (a : AlertSet) : Move s { s with chk := { s.chk with pending := s.chk.pending.without a } }

/-- A chain of moves. -/
abbrev Moves : State → State → Prop := Relation.ReflTransGen Move

/-- A property that every move keeps is kept by a chain of moves. -/
theorem Moves.keeps {P : State → Prop} (h : ∀ s t, Move s t → P s → P t) {s t : State} (m : Moves s t) (hs : P s) : P t := by
  induction m with
  | refl => exact hs
  | tail _ hm ih => exact h _ _ hm ih

theorem Moves.one {s t : State} (h : Move s t) : Moves s t := .single h

/-! ### The shared operations as chains -/

theorem release_moves {s : State} {p : PortId} {n : Nat} {u : State}
    (h : Moves u (s.setBuf p ((s.bufCounts p).release n))) : Moves u (s.release p n) :=
  State.release_keeps (P := Moves u) h (fun _ q w ws r rs hc ht => ht.tail (.store _ q w ws r rs hc))

theorem retire_moves {s : State} {p : PortId} {st : DoneStatus} (h : s.retireStatus p = some st) : Moves s (s.retire p st) := by
  obtain ⟨e, rest, hq⟩ := State.retireStatus_head h
  rw [State.retire_eq hq]
  exact release_moves (.one (.pop s p st e rest hq h))

theorem takeOfferedUnit_moves {s : State} {p : PortId} (h : s.unitDue p = true) : Moves s (s.takeOfferedUnit p) := by
  unfold State.takeOfferedUnit
  split
  · exact .refl
  · next hd hl => exact .one (.stray s p _ _ hd hl)
  · next u us r rs hd hl =>
    split
    · next hm => exact .one (.sink s p u us r rs hd hl (.inl hm))
    · next hm =>
      split
      · next hb =>
        unfold State.parityError
        split
        · next hf => exact .one (.sink s p u us r rs hd hl (.inr hf))
        · next e hf => exact release_moves (.one (.dataerr s p u us r rs e hd hl hm hf))
      · next hb =>
        simp only [State.port_eq] at hd hl
        simp [State.unitDue, hd, hl, hm, hb] at h
        exact .one (.store s p u us r rs ⟨h.1.1, h.1.2, hd, hl, hm, by simpa using hb, h.2⟩)

theorem takeOfferedRequest_moves {s : State} {p : PortId} (h : s.requestDue p = true) : Moves s (s.takeOfferedRequest p) := by
  unfold State.takeOfferedRequest
  split
  · exact .refl
  · next m rest hq =>
    simp only [State.port_eq] at hq
    simp only [State.requestDue, State.port_eq, hq] at h
    unfold State.takeRequest
    split
    · next hd => exact .one (.duplicate s p m rest hq h (by simpa using hd))
    · next hd => exact .one (.accept s p m rest hq h (by simpa using hd))

theorem takeDue_moves {s : State} {d : Due} (h : s.DueHolds d) : Moves s (s.takeDue d) := by
  cases d with
  | retire p =>
    obtain ⟨st, hst⟩ := h
    simp only [State.takeDue, State.retireDue_eq hst]
    exact retire_moves hst
  | unit p => exact takeOfferedUnit_moves h
  | request p => exact takeOfferedRequest_moves h
  | mark p => exact .one (.mark s p)
  | timeout i => exact .one (.timeout s i h)
  | detached i => exact .one (.orphan s i h)
  | expiry i => exact .one (.linkFail s i h)
  | drain => exact .one (.quiesce s h)

theorem settle_moves {u s : State} (h : Moves u s) : Moves u s.settle :=
  State.settle_keeps (P := Moves u) (fun _ _ hd ht => ht.trans (takeDue_moves hd)) h

theorem finish_moves {u s : State} (h : Moves u s) : Moves u s.finish :=
  State.finish_keeps (P := Moves u) (fun _ _ hd ht => ht.trans (takeDue_moves hd)) h

theorem arbitrate_moves (s : State) : Moves s s.arbitrate := by
  unfold State.arbitrate
  split
  · next t p i hw hi =>
    split
    · next e rest hq => exact release_moves (.one (.grant s t p e rest i hw hi hq))
    · exact .refl
  · exact .refl

theorem portReset_moves (s : State) (p : PortId) (w : Bool) : Moves s (s.portReset p w) :=
  release_moves (.one (.dropPort s p w))

theorem retireIf_moves (s : State) (p : PortId) (st : DoneStatus) : Moves s (s.retireIf p st) := by
  unfold State.retireIf
  split
  · next h => exact retire_moves h
  · exact .refl

/-! ### Replies -/

theorem lateReply_moves {s : State} {i : SlotId} (h : (s.slots.row i).owes = false) : Moves s (s.lateReply i) := by
  have h1 : Moves s (s.freeSlot i).countLate := (Moves.one (.free s i h)).tail (.countLate _)
  simp only [State.lateReply]
  split
  · exact h1
  · exact h1.tail (.raise _ _ _)

theorem completeSlot_moves {s : State} {i : SlotId} {sl : Slot} (bad : Bool) (k : CheckKind)
    (h : (s.slots.row i).owes = true) (hp : sl.port = (s.slots.row i).port) (ht : sl.tag = (s.slots.row i).tag)
    (hd : sl.dir = (s.slots.row i).dir) : Moves s (s.completeSlot i sl bad k) := by
  have h1 := Moves.one (Move.answer s i (if bad then .memerr else .ok) h)
  have e : s.answerSlot (s.slots.row i) (if bad then .memerr else .ok) = s.answerSlot sl (if bad then .memerr else .ok) := by
    simp only [State.answerSlot, hp, ht, hd]
  rw [e] at h1
  cases bad with
  | false => exact h1
  | true => exact h1.tail (.raise _ sl.report (State.slotCapture (s.answerSlot sl .memerr) k sl))

theorem owedUnit_moves {s : State} {i : SlotId} {idx : UnitIndex} {data : UnitData} {g : Integrity}
    (hb : (s.slots.row i).busy = true) (h : (s.slots.row i).owes = true) (ho : (s.slots.row i).state ≠ .orphaned) :
    Moves s (s.owedUnit i idx data g) := by
  simp only [State.owedUnit]
  generalize hsl : ({ (s.slot i).receive idx with poisoned := (s.slot i).poisoned || g == Integrity.poisoned } : Slot) = sl
  have hp : sl.port = (s.slots.row i).port := by subst hsl; rfl
  have ht : sl.tag = (s.slots.row i).tag := by subst hsl; rfl
  have hd : sl.dir = (s.slots.row i).dir := by subst hsl; rfl
  have hr : sl = { s.slots.row i with received := sl.received, poisoned := sl.poisoned } := by subst hsl; rfl
  have hf : Moves s (s.forwardUnit sl idx data g) ∧ (s.forwardUnit sl idx data g).slots = s.slots := by
    simp only [State.forwardUnit]
    have h1 := Moves.one (.forward s sl.port (.readUnit sl.tag idx data (g == .poisoned)))
    split
    · exact ⟨h1.tail (.raise _ _ _), rfl⟩
    · exact ⟨h1, rfl⟩
  split
  · exact hf.1.trans (completeSlot_moves _ _ (by rw [hf.2]; exact h) (by rw [hf.2]; exact hp) (by rw [hf.2]; exact ht)
      (by rw [hf.2]; exact hd))
  · refine hf.1.tail (.progress _ i _ (by rw [hf.2]; exact hb) ⟨.returning, sl.received, sl.poisoned, by simp, ?_, ?_⟩)
    · rw [hf.2]; simp [ho]
    · rw [hf.2]; subst hsl; rfl

theorem takeReadUnit_moves (s : State) (i : SlotId) (idx : UnitIndex) (data : UnitData) (g : Integrity) :
    Moves s (s.takeReadUnit i idx data g) := by
  simp only [State.takeReadUnit]
  split
  · exact .one (.raise _ _ _)
  · next hm =>
    have hb : (s.slots.row i).busy = true := by
      simp only [Slot.misfitsUnit, Slot.misfits, Bool.or_eq_true, not_or, State.slot_eq] at hm
      simpa using hm.1.1.1
    have hne : (s.slots.row i).state ≠ .free := by simpa [Slot.busy] using hb
    have live : (s.slots.row i).state ≠ .orphaned →
        Moves s (if (s.slot i).detached then
          if ((s.slot i).receive idx).allReceived then s.freeSlot i
          else s.setSlot i { (s.slot i).receive idx with state := .returning }
        else s.owedUnit i idx data g) := by
      intro ho
      split
      · next hd =>
        split
        · exact .one (.free s i (by simp only [State.slot_eq] at hd; simp [Slot.owes, hd]))
        · exact .one (.progress s i _ hb ⟨.returning, _, _, by simp, by simp [ho], rfl⟩)
      · next hd =>
        refine owedUnit_moves hb ?_ ho
        simp only [State.slot_eq, Bool.not_eq_true] at hd
        revert hne ho hd
        cases hst : (s.slots.row i).state <;> simp [Slot.owes, hst]
    cases hst : (s.slots.row i).state with
    | orphaned =>
      simp only [State.slot_eq, hst]
      by_cases hr : ((s.slots.row i).receive idx).allReceived = true
      · rw [if_pos hr]
        exact lateReply_moves (by simp [Slot.owes, hst])
      · rw [if_neg hr]
        exact .one (.progress s i _ hb ⟨.orphaned, _, _, by simp, by simp [hst], by rw [← hst]; rfl⟩)
    | free => exact absurd hst hne
    | issued => simpa only [State.slot_eq, hst] using live (by simp [hst])
    | returning => simpa only [State.slot_eq, hst] using live (by simp [hst])

theorem takeWriteDone_moves (s : State) (i : SlotId) (bad : Bool) : Moves s (s.takeWriteDone i bad) := by
  simp only [State.takeWriteDone]
  split
  · exact .one (.raise _ _ _)
  · next hm =>
    have hb : (s.slots.row i).busy = true := by
      simp only [Slot.misfits, Bool.or_eq_true, not_or, State.slot_eq] at hm
      simpa using hm.1
    have hne : (s.slots.row i).state ≠ .free := by simpa [Slot.busy] using hb
    have live : (s.slots.row i).state ≠ .orphaned →
        Moves s (if (s.slot i).detached then s.freeSlot i else s.completeSlot i (s.slot i) bad .memWriteFailed) := by
      intro ho
      split
      · next hd => exact .one (.free s i (by simp only [State.slot_eq] at hd; simp [Slot.owes, hd]))
      · next hd =>
        refine completeSlot_moves _ _ ?_ rfl rfl rfl
        simp only [State.slot_eq, Bool.not_eq_true] at hd
        revert hne ho hd
        cases hst : (s.slots.row i).state <;> simp [Slot.owes, hst]
    cases hst : (s.slots.row i).state with
    | orphaned => simpa only [State.slot_eq, hst] using lateReply_moves (by simp [Slot.owes, hst])
    | free => exact absurd hst hne
    | issued => simpa only [State.slot_eq, hst] using live (by simp [hst])
    | returning => simpa only [State.slot_eq, hst] using live (by simp [hst])

/-! ### Management commands -/

/-- A frame taken in a begun transaction is the block's work and then the response. -/
theorem onFrame_moves (s : State) (cmd : List Byte) (len : Nat) (f : State → Answer)
    (h : s.mgmt.transaction ≠ .idle → Moves s (f s).state ∧ (f s).state.mgmt = s.mgmt) : Moves s (s.onFrame cmd len f) := by
  unfold State.onFrame
  split
  · next ha =>
    have hb : s.mgmt.transaction ≠ .idle := fun hi => by rw [hi] at ha; cases ha
    obtain ⟨h1, h2⟩ := h hb
    exact h1.tail (.setMgmt _ _ (fun _ hi => absurd (h2 ▸ hi) hb))
  · exact .refl

theorem onCommand_moves (s : State) (c : Instr) (f : State → Answer)
    (h : s.mgmt.transaction ≠ .idle → Moves s (f s).state ∧ (f s).state.mgmt = s.mgmt) : Moves s (s.onCommand c f) :=
  onFrame_moves s _ _ f h

theorem setMode_moves (s : State) (target : Byte) :
    Moves s (s.setMode target).state ∧ (s.setMode target).state.mgmt = s.mgmt := by
  have adm : ∀ m : Mode, m = .pass ∨ m = .regulate →
      Moves s (s.setAdmitting m).state ∧ (s.setAdmitting m).state.mgmt = s.mgmt := by
    intro m hm
    unfold State.setAdmitting
    split
    · exact ⟨.refl, rfl⟩
    · next hn => exact ⟨finish_moves (.one (.setMode s m hm hn)), (State.finish_sameButDue _).mgmt⟩
  have drn : (s.mode = .pass ∨ s.mode = .regulate) →
      Moves s { s with mode := .draining }.examineDrain ∧ { s with mode := .draining }.examineDrain.mgmt = s.mgmt := by
    intro hm
    unfold State.examineDrain
    split
    · next hd => exact ⟨(Moves.one (.setDraining s hm)).tail (.quiesce _ hd), rfl⟩
    · exact ⟨.one (.setDraining s hm), rfl⟩
  unfold State.setMode
  split
  · exact adm _ (.inl rfl)
  · exact adm _ (.inr rfl)
  · unfold State.setDrain
    split
    · next hm => exact drn (.inl hm)
    · next hm => exact drn (.inr hm)
    · exact ⟨.refl, rfl⟩
    · exact ⟨.refl, rfl⟩
  · exact ⟨.refl, rfl⟩

/-! ### Every command -/

/-- Every command answers a next state. -/
theorem exec_next (c : Instr) (s : State) : ∃ t, exec c s = .next t := by
  cases c <;> exact ⟨_, rfl⟩

/-- A command that only reads answers with the state unchanged. -/
theorem onCommand_read_moves (s : State) (c : Instr) (f : State → Answer) (h : (f s).state = s) : Moves s (s.onCommand c f) :=
  onCommand_moves s c f (fun _ => by rw [h]; exact ⟨.refl, rfl⟩)

theorem ite_moves {c : Prop} [Decidable c] {u s t : State} (hs : c → Moves u s) (ht : ¬c → Moves u t) :
    Moves u (if c then s else t) := by
  split
  · next h => exact hs h
  · next h => exact ht h

/-- Every command's next state is reached by a chain of moves. -/
theorem exec_moves {c : Instr} {s t : State} (h : exec c s = .next t) : Moves s t := by
  have done : ∀ {u : State}, exec c s = .next u → Moves s u → Moves s t := by
    intro u hu hm
    rw [h] at hu
    cases hu
    exact hm
  cases c with
  | fullReset w => exact done rfl (.one (.fullReset s w))
  | rstNRelease => exact done rfl (ite_moves (fun h => finish_moves (.one (.releaseRst s h))) (fun _ => .refl))
  | portReset p w => exact done rfl (ite_moves (fun _ => .refl) (fun _ => finish_moves (portReset_moves s p w)))
  | portResetRelease p => exact done rfl (ite_moves (fun _ => finish_moves (.one (.releaseLine s p))) (fun _ => .refl))
  | request p m =>
    exact done rfl (finish_moves (ite_moves
      (fun h => (Moves.one (.offerRequest s p m)).trans (takeOfferedRequest_moves h)) (fun _ => .one (.offerRequest s p m))))
  | writeUnit p u =>
    exact done rfl (finish_moves (ite_moves
      (fun h => (Moves.one (.offerUnit s p u)).trans (takeOfferedUnit_moves h)) (fun _ => .one (.offerUnit s p u))))
  | tick k =>
    exact done rfl (ite_moves (fun _ => .refl) (fun hr => ite_moves
      (fun h => .one (.count s k (by simpa using hr) h)) (fun _ => finish_moves (.one (.tick s (by simpa using hr))))))
  | urgentMark p => exact done rfl (finish_moves (ite_moves (fun _ => .one (.mark s p)) (fun _ => .refl)))
  | responseTimeout i => exact done rfl (finish_moves (ite_moves (fun h => .one (.timeout s i h)) (fun _ => .refl)))
  | detachedTimeout i => exact done rfl (finish_moves (ite_moves (fun h => .one (.orphan s i h)) (fun _ => .refl)))
  | orphanLimitExpiry i =>
    exact done rfl (ite_moves (fun h => settle_moves (.one (.linkFail s i h))) (fun _ => finish_moves .refl))
  | grant => exact done rfl (finish_moves (arbitrate_moves s))
  | retireRefused p => exact done rfl (finish_moves (retireIf_moves s p _))
  | retireDataerr p => exact done rfl (finish_moves (retireIf_moves s p _))
  | retireFence p => exact done rfl (finish_moves (retireIf_moves s p _))
  | failFast p => exact done rfl (finish_moves (retireIf_moves s p _))
  | drainComplete =>
    exact done rfl (finish_moves (ite_moves (fun h => .one (.quiesce s h)) (fun _ => .refl)))
  | advertise e k =>
    exact done rfl (ite_moves (fun _ => .refl) (fun hr => ite_moves (fun _ => .one (.countStale s)) (fun _ => ite_moves
      (fun h => .one (.goOnline s k.val (by simpa using hr) h.1 h.2.1 h.2.2)) (fun _ => .one (.raise _ _ _)))))
  | readUnit e i idx d g =>
    exact done rfl (ite_moves (fun _ => .refl) (fun _ => ite_moves (fun _ => .one (.countStale s)) (fun _ => ite_moves
      (fun _ => .one (.raise _ _ _)) (fun _ => finish_moves (takeReadUnit_moves s i idx d g)))))
  | writeDone e i o =>
    exact done rfl (ite_moves (fun _ => .refl) (fun _ => ite_moves (fun _ => .one (.countStale s)) (fun _ => ite_moves
      (fun _ => .one (.raise _ _ _)) (fun _ => finish_moves (takeWriteDone_moves s i _)))))
  | unknownLinkMessage => exact done rfl (ite_moves (fun _ => .refl) (fun _ => .one (.raise _ _ _)))
  | csNFall =>
    exact done rfl (ite_moves (fun _ => .refl) (fun _ => .one (.setMgmt s _ (fun hr _ => by simp [hr]))))
  | csNRise k => exact done rfl (ite_moves (fun _ => .one (.setMgmt s _ (fun _ _ => rfl))) (fun _ => .refl))
  | badFrame a b pl ck =>
    exact done rfl (ite_moves (fun _ => .refl) (fun _ => onFrame_moves s _ _ _ (fun _ => ⟨.refl, rfl⟩)))
  | unknownCommand a b => exact done rfl (ite_moves (fun _ => .refl) (fun _ => onCommand_read_moves s _ _ rfl))
  | readIdent i => exact done rfl (onCommand_read_moves s _ _ rfl)
  | readStatus i => exact done rfl (onCommand_read_moves s _ _ rfl)
  | readRegion i => exact done rfl (onCommand_read_moves s _ _ (by split <;> rfl))
  | readAccount i => exact done rfl (onCommand_read_moves s _ _ (by split <;> rfl))
  | readPort i => exact done rfl (onCommand_read_moves s _ _ (by split <;> rfl))
  | readTiming i => exact done rfl (onCommand_read_moves s _ _ rfl)
  | readCheckRecord i => exact done rfl (onCommand_read_moves s _ _ rfl)
  | readCounters i g => exact done rfl (onCommand_read_moves s _ _ (by split <;> rfl))
  | readSlot i => exact done rfl (onCommand_read_moves s _ _ (by split <;> rfl))
  | writeRegion i pl =>
    refine done rfl (onCommand_moves s _ _ (fun _ => ?_))
    split
    · exact ⟨.refl, rfl⟩
    · split
      · exact ⟨.refl, rfl⟩
      · next e he => exact ⟨.one (.setRegion s _ e ⟨pl, he⟩), rfl⟩
  | writeAccount i pl =>
    refine done rfl (onCommand_moves s _ _ (fun _ => ?_))
    split
    · exact ⟨.refl, rfl⟩
    · split
      · exact ⟨.refl, rfl⟩
      · next w hw => exact ⟨.one (.writeAccount s _ w ⟨pl, hw⟩), rfl⟩
  | writePort i pl =>
    refine done rfl (onCommand_moves s _ _ (fun _ => ?_))
    split
    · exact ⟨.refl, rfl⟩
    · split
      · exact ⟨.refl, rfl⟩
      · next hm =>
        split
        · exact ⟨.refl, rfl⟩
        · next c hc => exact ⟨.one (.writePort s _ c (by simpa using hm) ⟨pl, hc⟩), rfl⟩
  | writeTiming i pl =>
    refine done rfl (onCommand_moves s _ _ (fun _ => ?_))
    split
    · exact ⟨.refl, rfl⟩
    · next hm =>
      split
      · exact ⟨.refl, rfl⟩
      · next w hw => exact ⟨.one (.writeTiming s w (by simpa using hm) ⟨pl, hw⟩), rfl⟩
  | setModePass i g => exact done rfl (onCommand_moves s _ _ (fun _ => setMode_moves s g))
  | setModeRegulate i => exact done rfl (onCommand_moves s _ _ (fun _ => setMode_moves s 1))
  | setModeDrain i => exact done rfl (onCommand_moves s _ _ (fun _ => setMode_moves s 2))
  | resetLink i =>
    refine done rfl (onCommand_moves s _ _ (fun hb => ?_))
    simp only [State.did]
    refine ⟨settle_moves (.one (.resetLink s hb)), ?_⟩
    have h1 : s.resetLink.settle.mgmt = s.resetLink.mgmt := (State.settle_sameButDue _).mgmt
    have h2 : s.resetLink.mgmt = s.freeAllSlots.mgmt := by simp only [State.resetLink, State.sendDn_mgmt]
    exact (h1.trans h2).trans s.freeAllSlots_same.mgmt
  | clearChecks i pl =>
    refine done rfl (onCommand_moves s _ _ (fun _ => ?_))
    split
    · exact ⟨.one (.clearRecord s), rfl⟩
    · exact ⟨.refl, rfl⟩
  | clearCounters i g =>
    refine done rfl (onCommand_moves s _ _ (fun _ => ?_))
    split
    · exact ⟨.refl, rfl⟩
    · next g _ => exact ⟨.one (.clearGroup s g), by cases g <;> rfl⟩
  | setAlertMask i m =>
    refine done rfl (onCommand_moves s _ _ (fun _ => ?_))
    split
    · exact ⟨.refl, rfl⟩
    · exact ⟨.one (.setMask s _), rfl⟩
  | ackAlert i m =>
    refine done rfl (onCommand_moves s _ _ (fun _ => ?_))
    split
    · exact ⟨.refl, rfl⟩
    · exact ⟨.one (.ack s _), rfl⟩

/-- A property that every move keeps, and that does not look at the queue of commands, is kept by every step. -/
theorem step_keeps {P : State → Prop} (h : ∀ s t, Move s t → P s → P t)
    (hp : ∀ (s : State) (l : List Instr), P s → P { s with pending := l }) {s t : State} (hs : P s) (e : step s = .next t) :
    P t := by
  unfold step at e
  split at e
  · cases e; exact hs
  · exact (exec_moves e).keeps h (hp _ _ hs)

end Sys2Proof.Machine
end

