-- ==== Sys2Proof/Tests/Slice0.lean ====
section
/-! SUPPORT. The model's own tests: the checks of `Instr.wf` refuse, the spec's sample frames and worked figures come out, and a
witness for the hypotheses of every statement (`test_meets_<statement>`), each clause at the boundary values of its range. -/

set_option maxRecDepth 16000

namespace Sys2Proof.Machine

/-! ### Small states -/

/-- `exec` answers a next state of which `P` holds. -/
def answersWith (c : Instr) (s : State) (P : State → Bool) : Bool :=
  match exec c s with
  | .next t => P t
  | .fault _ => false
  | .refused _ => false

def testReq (kind : ReqKind) (addr : Addr) (len : Fin 32) (level : Level) : RequestMsg :=
  { tag := 3, kind := kind, addr := addr, len := len, level := level }

def testUnit (bad : Bool) : WriteUnitMsg := { data := 7, mask := none, bad := bad }

def testEntry (tag : Tag) (kind : ReqKind) (disposition : Disposition) (data : DataState) : Entry :=
  { tag := tag, kind := kind, addr := some 64, len := some 1, disposition := disposition, admission := .pass, region := none,
    account := none, guard := true, report := .all, data := data, held := [], age := 0, urgent := false, markDue := false }

def testRecord (mode : RecordMode) (expected taken : Nat) : ListRecord :=
  { mode := mode, expected := expected, taken := taken, entry := some 3 }

def testSlot (state : SlotState) (dir : Dir) (len : Nat) : Slot :=
  { Slot.reset with state := state, dir := dir, len := len, tag := 3 }

/-- After reset, with port 1 changed. -/
def portState (f : Port → Port) : State := State.reset.modPort 1 f

/-- After reset, with the link ONLINE with `n` credits. -/
def onlineState (n : Nat) : State := { State.reset with link := { state := .online, epoch := 0, advertised := n } }

/-- ONLINE with 4 credits, and slot 2 in use. -/
def slotState (sl : Slot) : State := (onlineState 4).setSlot 2 sl

/-- After reset, with a transaction begun and nothing received in it. -/
def begunState (mode : Mode) : State :=
  { State.reset with mode := mode, mgmt := { transaction := .begun [], csLow := true, sdo := [] } }

/-! ### The checks of `Instr.wf` refuse -/

theorem test_wf_refuses_empty_tick : (Instr.tick 0).wf = false := by decide
theorem test_wf_refuses_bad_frame_of_wrong_length : (Instr.badFrame 0x20 0 [] 0).wf = false := by decide
theorem test_wf_refuses_bad_frame_whose_check_matches : (Instr.badFrame 0x01 0 [] 0x15).wf = false := by decide
theorem test_wf_refuses_unknown_command_that_is_named : (Instr.unknownCommand 0x34 0).wf = false := by decide
theorem test_wf_refuses_pass_with_target_regulate : (Instr.setModePass 0 1).wf = false := by decide
theorem test_wf_refuses_pass_with_target_drain : (Instr.setModePass 0 2).wf = false := by decide
theorem test_wf_takes_the_rest :
    (Instr.tick 1).wf ∧ (Instr.badFrame 0x01 0 [] 0x16).wf ∧ (Instr.unknownCommand 0x35 0).wf
      ∧ (Instr.setModePass 0 0).wf ∧ (Instr.setModePass 0 3).wf := by decide

/-! ### Frames (R153, R164, R165) -/

theorem test_sample_read_ident_frame : encodeFrame (.readIdent 0) = some [0x01, 0x00, 0x15] := by decide
theorem test_sample_bad_frame_response : responseBytes .badFrame 5 [] = [0x06, 0x12] := by decide
theorem test_decode_read_ident : decodeFrame [0x01, 0x00, 0x15] = some (.readIdent 0) := by decide
theorem test_decode_corrupted_read_ident : decodeFrame [0x01, 0x00, 0x14] = some (.badFrame 0x01 0x00 [] 0x14) := by decide
theorem test_decode_unknown_code : decodeFrame [0x00, 0x00, 0x00] = some (.unknownCommand 0x00 0x00) := by decide
theorem test_decode_short_frame : decodeFrame [0x20, 0x00, 0x01] = none := by decide
theorem test_response_lengths :
    identBytes.length = 5 ∧ (statusBytes State.reset).length = 27 ∧ (regionBytes RegionEntry.reset).length = 14
      ∧ (accountBytes Account.reset).length = 13 ∧ (portBytes (PortConfig.reset 0)).length = 6
      ∧ (timingBytes State.reset).length = 7 ∧ (checkRecordBytes CheckUnit.reset.record).length = 21
      ∧ (countersBytes (State.reset.groupCounters .global)).length = 20 ∧ (slotBytes Slot.reset).length = 28 := by decide

/-! ### Figures of the spec -/

/-- Region 2 of Table 1-4. -/
def exampleRegion2 : RegionEntry :=
  { valid := true, base := 0x40000000, sizeCode := 0, readPorts := 1, writePorts := 1, readLevel := 0, writeLevel := 0,
    selection := ⟨⟨[.account 5, .portDefault, .portDefault, .portDefault]⟩, rfl⟩, guard := true, report := .all }

def exampleTable : Tab 16 RegionEntry := (Tab.const 16 RegionEntry.reset).setRow 2 exampleRegion2

theorem test_example_request_a :
    classify .regulate exampleTable (PortConfig.reset 0) 0 (testReq .read 0x40000F80 4 0)
      = { disposition := .issue, refusal := none, region := some 2, account := some 5, guard := true, report := .all } := by
  decide
theorem test_example_request_b :
    classify .regulate exampleTable (PortConfig.reset 0) 0 (testReq .read 0x40000FC0 4 0)
      = { disposition := .refused, refusal := some .boundary, region := some 2, account := some 5, guard := true,
          report := .all } := by decide
theorem test_example_request_c :
    classify .regulate exampleTable (PortConfig.reset 1) 1 (testReq .write 0x40000200 2 0)
      = { disposition := .refused, refusal := some .protection, region := some 2, account := some 1, guard := true,
          report := .all } := by decide

/-- An account of Table 2-2: limit 100, clip 150, drain 20, and a charge of 24 for one unit. -/
def exampleAccount (balance : Nat) : Account :=
  { Account.reset with
    params := { Account.reset.params with limit := 100, clip := 150, requestCharge := 20, unitCharge := 4, drain := 20 }
    balance := balance }

theorem test_charge_and_drain_of_table_2_2 :
    ((exampleAccount 100).chargeGrant .ordinary 1).drainTick.balance = 104
      ∧ ((exampleAccount 100).chargeGrant .ordinary 1).drainTick.counters.overTicks = 1
      ∧ ((exampleAccount 100).drainTick.chargeGrant .ordinary 1).balance = 104
      ∧ ((exampleAccount 100).drainTick.chargeGrant .ordinary 1).counters.overTicks = 0
      ∧ ((exampleAccount 140).chargeGrant .ordinary 1).drainTick.balance = 130
      ∧ ((exampleAccount 140).drainTick.chargeGrant .ordinary 1).balance = 144
      ∧ ((exampleAccount 10).chargeGrant .ordinary 1).drainTick.balance = 14
      ∧ ((exampleAccount 10).drainTick.chargeGrant .ordinary 1).balance = 24 := by decide

/-! ### Fields of messages (R167, Table 10-4) -/

theorem test_arriving_fields_name_their_message :
    linkMessageOf 0 1 5 0 0 0 0 0 = .advertise 1 5 ∧ linkMessageOf 1 1 0 2 3 9 2 0 = .readUnit 1 2 3 9 .poisoned
      ∧ linkMessageOf 2 1 0 2 0 0 0 1 = .writeDone 1 2 .failed ∧ linkMessageOf 3 1 5 2 3 9 0 0 = .unknownLinkMessage
      ∧ (requestOf 3 1 64 2 1).kind = .write ∧ (requestOf 3 3 64 2 1).kind = .unnamed
      ∧ writeUnitOf 7 false 5 0 = testUnit false ∧ writeUnitOf 7 true 5 1 = { data := 7, mask := some 5, bad := true } := by
  decide
theorem test_sent_fields :
    (DnMsg.restart 2).fields = [⟨1, 0⟩, ⟨2, 2⟩]
      ∧ (DnMsg.issue 1 4 .write 64 (issueLengthField 1) (some [{ data := 9, mask := none }])).fields
          = [⟨1, 1⟩, ⟨2, 1⟩, ⟨5, 4⟩, ⟨1, 1⟩, ⟨40, 64⟩, ⟨4, 0⟩, ⟨256, 9⟩, ⟨1, 0⟩]
      ∧ (RspMsg.done 3 .aborted).fields = [⟨5, 3⟩, ⟨3, 5⟩] ∧ issueLengthField 16 = 15 ∧ issueLength 15 = 16 := by decide
theorem test_low_line_holds_both_groups :
    (portState (fun po => { po with resetLow := true })).reqHeld 1 = true
      ∧ (portState (fun po => { po with resetLow := true })).dataHeld 1 = true
      ∧ State.reset.reqHeld 1 = false ∧ State.reset.dataHeld 1 = false := by decide

/-! ### One step -/

theorem test_step_takes_the_front_command :
    step { State.reset with pending := [.grant, .csNFall] } = exec .grant { State.reset with pending := [.csNFall] } := rfl

theorem test_advertise_goes_online :
    answersWith (.advertise 0 32) State.reset (fun t => decide (t.link = { state := .online, epoch := 0, advertised := 32 }))
      = true := by decide
theorem test_tick_at_the_period_advances_the_stamp :
    answersWith (.tick 1024) State.reset (fun t => decide (t.ticks = { period := 1024, count := 0, stamp := 1 })) = true := by
  decide
theorem test_read_in_pass_is_queued :
    answersWith (.request 1 (testReq .read 64 2 0)) State.reset (fun t =>
      (t.port 1).queue.map (·.disposition) == [.issue] && (t.port 1).tags.row 3) = true := by decide
theorem test_misaligned_read_is_refused_at_once :
    answersWith (.request 1 (testReq .read 65 2 0)) State.reset (fun t =>
      (t.port 1).queue.isEmpty && (t.port 1).rsp == [.done 3 .refused]) = true := by decide
theorem test_fence_with_no_slot_is_answered_at_once :
    answersWith (.request 1 (testReq .fence 0 0 0)) State.reset (fun t =>
      (t.port 1).queue.isEmpty && (t.port 1).rsp == [.done 3 .ok]) = true := by decide
theorem test_grant_sends_an_issue :
    answersWith .grant ((onlineState 1).modPort 1 (fun po => { po with queue := [testEntry 3 .read .issue .complete] }))
      (fun t => decide (t.mlDn.getLast? = some (.issue 0 0 .read 64 0 none)) && (t.port 1).owedReads == 1 && t.pointer == 1)
      = true := by decide
theorem test_last_unit_answers_the_read :
    answersWith (.readUnit 0 2 0 9 .clean) (slotState (testSlot .issued .read 1)) (fun t =>
      (t.port 0).rsp == [.readUnit 3 0 9 false, .done 3 .ok] && (t.slot 2).state == .free) = true := by decide
theorem test_expiry_fails_the_link_and_aborts_heads :
    answersWith (.orphanLimitExpiry 2)
      ((slotState { testSlot .orphaned .read 1 with due := true }).modPort 1 (fun po =>
        { po with queue := [testEntry 3 .read .issue .complete, testEntry 4 .fence .fence .complete] }))
      (fun t => t.link.state == .failed && (t.port 1).rsp == [.done 3 .aborted, .done 4 .aborted]) = true := by decide
theorem test_drain_of_an_idle_part_completes_at_once :
    answersWith (.setModeDrain 0) (begunState .regulate) (fun t => t.mode == .quiesced && t.chk.pending.quiesced) = true := by
  decide
theorem test_read_ident_response :
    answersWith (.readIdent 0) (begunState .pass) (fun t =>
      decide (t.mgmt.transaction = .answered [0x01, 0x00, 0x15]
        [0x00, 0x03, 0xA9, 0x04, 0x16, 0x01, crc8 [0x00, 0x03, 0xA9, 0x04, 0x16, 0x01]])) = true := by decide

/-! ### Witnesses: the machine and its frames -/

theorem test_meets_StepTakesFrontCommand : State.reset.pending = [] := rfl
theorem test_meets_FinishLeavesNothingDue : State.reset.ownEventNext = false := by decide
theorem test_meets_FinishKeepsTablesTicksSettingsAndQueue :
    State.reset.nextDue = none ∧ State.ownEventNext { State.reset with pending := [.drainComplete] } = true := by decide
theorem test_meets_FrameOfEveryCommandDecodesBack :
    (Instr.clearChecks 0 (Tab.const 2 0xFF)).wf = true ∧ (encodeFrame (.clearChecks 0 (Tab.const 2 0xFF))).isSome
      ∧ (Instr.badFrame 0x01 0 [] 0x14).wf = true ∧ (encodeFrame (.badFrame 0x01 0 [] 0x14)).isSome := by decide

/-! ### Witnesses: resets -/

theorem test_meets_RstNReleaseSendsOneRestart : State.held.rstLow = true := rfl
theorem test_meets_PortResetDropsThePortsWork : (State.reset.port 3).resetLow = false := by decide
theorem test_meets_PortLineHoldsThePort : ((portState (fun po => { po with resetLow := true })).port 1).resetLow = true := by
  decide

/-! ### Witnesses: requests -/

/-- Port 1 with `n` entries in its queue and `k` records in its list. -/
def crowded (mode : Mode) (n k : Nat) : State :=
  { portState (fun po =>
      { po with queue := List.replicate n (testEntry 5 .read .issue .complete)
                list := List.replicate k (testRecord .sink 1 0) }) with mode := mode }

/-- Port 1 with `n` entries and `k` records, and these REQUESTs waiting. -/
def crowdedWith (mode : Mode) (n k : Nat) (offers : List RequestMsg) : State :=
  (crowded mode n k).modPort 1 (fun po => { po with reqOffers := offers })

theorem test_meets_RequestWaitsWhileAConditionFails :
    (State.held.port 1).reqOffers ++ [testReq .read 64 1 0] = testReq .read 64 1 0 :: [] ∧ State.held.rstLow = true
      ∧ (crowded .draining 0 0).mode = .draining ∧ (crowded .quiesced 0 0).mode = .quiesced
      ∧ ((portState (fun po => { po with resetLow := true })).port 1).resetLow = true
      ∧ 16 ≤ ((crowded .pass 16 0).port 1).queue.length ∧ 16 ≤ ((crowded .pass 0 16).port 1).list.length
      ∧ ((crowdedWith .pass 0 16 [testReq .write 64 1 0]).port 1).reqOffers ++ [testReq .read 64 1 0]
          = testReq .write 64 1 0 :: [testReq .read 64 1 0]
      ∧ (testReq .write 64 1 0).kind = .write := by decide
theorem test_meets_RequestIsClassifiedAndQueued_offered :
    (testReq .write 64 16 3).kind ≠ .fence ∧ (crowded .regulate 15 15).rstLow = false
      ∧ (crowded .regulate 15 15).mode = .regulate ∧ (crowded .pass 15 15).mode = .pass
      ∧ ((crowded .regulate 15 15).port 1).resetLow = false
      ∧ ((crowded .regulate 15 15).port 1).reqOffers ++ [testReq .write 64 16 3] = testReq .write 64 16 3 :: []
      ∧ ((crowded .regulate 15 15).port 1).queue.length < 16 ∧ ((crowded .regulate 15 15).port 1).list.length < 16
      ∧ ((crowded .regulate 15 15).port 1).tags.row 3 = false := by decide
theorem test_meets_RequestIsClassifiedAndQueued_waiting :
    ∀ s ∈ [crowdedWith .pass 15 15 [testReq .write 64 16 3], crowdedWith .regulate 15 15 [testReq .write 64 16 3]],
      (s.port 1).reqOffers = testReq .write 64 16 3 :: [] ∧ s.ownEventNext = false ∧ s.requestIsNext 1
        ∧ s.rstLow = false ∧ (s.port 1).resetLow = false ∧ (s.port 1).queue.length < 16 ∧ (s.port 1).list.length < 16
        ∧ (s.port 1).tags.row 3 = false := by unfold State.requestIsNext; decide
theorem test_meets_FenceIsQueuedUnclassified_offered :
    (testReq .fence 0 0 0).kind = .fence ∧ (crowded .pass 15 16).rstLow = false ∧ (crowded .pass 15 16).mode = .pass
      ∧ ((crowded .pass 15 16).port 1).resetLow = false
      ∧ ((crowded .pass 15 16).port 1).reqOffers ++ [testReq .fence 0 0 0] = testReq .fence 0 0 0 :: []
      ∧ ((crowded .pass 15 16).port 1).queue.length < 16 ∧ ((crowded .pass 15 16).port 1).tags.row 3 = false := by decide
theorem test_meets_FenceIsQueuedUnclassified_waiting :
    ((crowdedWith .pass 15 16 [testReq .fence 0 0 0]).port 1).reqOffers = testReq .fence 0 0 0 :: []
      ∧ (crowdedWith .pass 15 16 [testReq .fence 0 0 0]).ownEventNext = false
      ∧ (crowdedWith .pass 15 16 [testReq .fence 0 0 0]).requestIsNext 1 := by unfold State.requestIsNext; decide
def tagged (offers : List RequestMsg) : State :=
  (crowdedWith .pass 15 15 offers).modPort 1 (fun po => { po with tags := po.tags.setRow 3 true })
theorem test_meets_DuplicateRequestIsDiscarded_offered :
    (tagged []).rstLow = false ∧ (tagged []).mode = .pass ∧ ((tagged []).port 1).resetLow = false
      ∧ ((tagged []).port 1).reqOffers ++ [testReq .write 64 1 0] = testReq .write 64 1 0 :: []
      ∧ ((tagged []).port 1).queue.length < 16 ∧ ((tagged []).port 1).list.length < 16
      ∧ ((tagged []).port 1).tags.row 3 = true := by decide
theorem test_meets_DuplicateRequestIsDiscarded_waiting :
    ((tagged [testReq .write 64 1 0]).port 1).reqOffers = testReq .write 64 1 0 :: []
      ∧ (tagged [testReq .write 64 1 0]).ownEventNext = false ∧ (tagged [testReq .write 64 1 0]).requestIsNext 1
      ∧ ((tagged [testReq .write 64 1 0]).port 1).tags.row 3 = true := by unfold State.requestIsNext; decide
theorem test_meets_LowestMatchingRegionIsMatched :
    matchedRegion exampleTable 0x40000FFF = some 2 ∧ matchedRegion exampleTable 0x40001000 = none
      ∧ matchedRegion exampleTable 0x3FFFFFFF = none := by decide

/-- The MALFORMED test of R9 on a READ of these fields. -/
def malformedRead (addr : Addr) (len : Fin 32) : Bool := malformed (testReq .read addr len 0)
theorem test_meets_ClassificationFollowsTheChecks :
    malformedRead 1 1 ∧ malformedRead 32 0 ∧ malformedRead 32 17 ∧ malformedRead 0xFFFFFFFFE0 2
      ∧ malformed (testReq .unnamed 32 1 0) ∧ malformedRead 0xFFFFFFFFE0 1 = false ∧ malformedRead 0 16 = false
      ∧ matchedRegion exampleTable 0 = none ∧ (PortConfig.reset 0).noRegion = .default
      ∧ matchedRegion exampleTable 0x40000FE0 = some 2
      ∧ outsideRegion exampleRegion2 (testReq .read 0x40000FE0 2 0) = true
      ∧ outsideRegion exampleRegion2 (testReq .read 0x40000FE0 1 0) = false
      ∧ forbidden exampleRegion2 1 (testReq .read 0x40000FE0 1 0) = true
      ∧ forbidden exampleRegion2 0 (testReq .write 0x40000FE0 1 1) = true
      ∧ forbidden exampleRegion2 0 (testReq .write 0x40000FE0 1 0) = false := by decide

/-! ### Witnesses: write units -/

/-- Port 1 with one WRITE entry and its record, holding `res` reserve units and the part `sh` shared units. -/
def writing (mode : RecordMode) (expected taken res sh : Nat) : State :=
  ((portState (fun po =>
      { po with queue := [testEntry 3 .write .issue .waitingData], list := [testRecord mode expected taken] })).setBuf 1
    { reserve := res, shared := 0 }).setBuf 2 { reserve := 16, shared := sh }

/-- With these WRITE UNITs waiting at port 1. -/
def State.withUnits (s : State) (us : List WriteUnitMsg) : State := s.modPort 1 (fun po => { po with dataOffers := us })

theorem test_meets_StrayUnitIsDiscarded :
    State.reset.rstLow = false ∧ (State.reset.port 1).resetLow = false ∧ (State.reset.port 1).list = []
      ∧ (State.reset.port 1).dataOffers ++ [testUnit false] = testUnit false :: []
      ∧ ((State.reset.withUnits [testUnit true]).port 1).dataOffers = testUnit true :: []
      ∧ (State.reset.withUnits [testUnit true]).ownEventNext = false
      ∧ (State.reset.withUnits [testUnit true]).unitIsNext 1 := by unfold State.unitIsNext; decide
theorem test_meets_UnitGoesToTheOldestRecord_offered :
    (∀ s ∈ [writing .sink 1 0 0 0, writing .store 2 0 15 0, writing .store 2 1 16 63, writing .store 2 1 16 64],
        s.rstLow = false ∧ (s.port 1).resetLow = false ∧ (s.port 1).dataOffers ++ [testUnit false] = testUnit false :: [])
      ∧ ((writing .sink 1 0 0 0).port 1).list = [testRecord .sink 1 0]
      ∧ ((writing .store 2 0 15 0).port 1).list = [testRecord .store 2 0]
      ∧ ((writing .store 2 0 15 0).bufCounts 1).reserve < 16 ∧ (writing .store 2 1 16 63).sharedInUse < 64
      ∧ 16 ≤ ((writing .store 2 1 16 64).bufCounts 1).reserve ∧ 64 ≤ (writing .store 2 1 16 64).sharedInUse
      ∧ (((writing .store 2 1 16 64).withUnits [testUnit false]).port 1).dataOffers ++ [testUnit true]
          = testUnit false :: [testUnit true] := by decide
theorem test_meets_UnitGoesToTheOldestRecord_waiting :
    ∀ s ∈ [(writing .sink 1 0 0 0).withUnits [testUnit false], (writing .store 2 0 15 0).withUnits [testUnit false],
        (writing .store 2 1 16 63).withUnits [testUnit false]],
      (s.port 1).dataOffers = testUnit false :: [] ∧ s.ownEventNext = false ∧ s.unitIsNext 1 := by
  unfold State.unitIsNext; decide
theorem test_meets_ParityErrorMarksDataerr :
    (testUnit true).bad = true ∧ ((writing .store 2 1 1 0).port 1).queue = [] ++ testEntry 3 .write .issue .waitingData :: []
      ∧ (testRecord .store 2 1).entry = some (testEntry 3 .write .issue .waitingData).tag
      ∧ ((writing .store 2 1 1 0).port 1).list = [testRecord .store 2 1]
      ∧ ((writing .store 2 1 1 0).port 1).dataOffers ++ [testUnit true] = testUnit true :: []
      ∧ (((writing .store 2 1 1 0).withUnits [testUnit true]).port 1).dataOffers = testUnit true :: []
      ∧ ((writing .store 2 1 1 0).withUnits [testUnit true]).ownEventNext = false
      ∧ ((writing .store 2 1 1 0).withUnits [testUnit true]).unitIsNext 1 := by unfold State.unitIsNext; decide

/-- Port 1 waits with a good unit, and nobody else does. -/
def waiting : State := (writing .store 2 1 16 64).withUnits [testUnit false]

/-- Port 3 waits as port 1 does. -/
def twoWaiting : State :=
  { (waiting.setBuf 3 { reserve := 16, shared := 0 }) with ports := waiting.ports.setRow 3 (waiting.port 1) }

theorem test_meets_ReleaseEmptiesSharedFirst :
    (∀ q, (State.reset.port q).dataOffers = []) ∧ waiting.rstLow = false ∧ (waiting.port 1).resetLow = false
      ∧ (waiting.port 1).dataOffers = [testUnit false] ∧ (waiting.port 1).list = [testRecord .store 2 1]
      ∧ (waiting.setBuf 2 { shared := 63, reserve := 16 }).bufferRoom 1 = true
      ∧ (∀ q, q ≠ 1 → (waiting.port q).dataOffers = [])
      ∧ [0, 1, 2, 3].filter (fun q => decide (q ≠ (2 : PortId))) = [0, 1, 3] := by decide
theorem test_release_serves_waiting_ports_in_order :
    ((twoWaiting.release 2 1).port 1).dataOffers = [] ∧ ((twoWaiting.release 2 1).port 3).dataOffers = [testUnit false]
      ∧ ((twoWaiting.release 3 1).port 1).dataOffers = [testUnit false] ∧ ((twoWaiting.release 3 1).port 3).dataOffers = []
      := by decide

/-! ### Witnesses: the tick and what it finds due -/

theorem test_meets_TickDrainsAgesAndCompares :
    State.reset.rstLow = false ∧ State.reset.ticks.count + 1023 < State.reset.ticks.period
      ∧ State.reset.ticks.period ≤ State.reset.ticks.count + 1024 := by decide
theorem test_meets_EveryAccountDrainsAtATick : State.reset.ticks.period ≤ State.reset.ticks.count + 1024 := by decide
theorem test_meets_UrgentMarkIsGivenToTheHead :
    ((portState (fun po => { po with queue := [{ testEntry 3 .read .issue .complete with markDue := true }] })).port 1).queue
      = { testEntry 3 .read .issue .complete with markDue := true } :: [] := by decide

def dueSlot (state : SlotState) (detached : Bool) : Slot :=
  { testSlot state .read 2 with due := true, detached := detached }
theorem test_meets_ResponseTimeoutOrphansTheSlot :
    (slotState (dueSlot .issued false)).slot 2 = dueSlot .issued false
      ∧ (slotState (dueSlot .returning false)).slot 2 = dueSlot .returning false := by decide
theorem test_meets_DetachedTimeoutIsSilent :
    (slotState (dueSlot .issued true)).slot 2 = dueSlot .issued true
      ∧ (slotState (dueSlot .returning true)).slot 2 = dueSlot .returning true := by decide
theorem test_meets_OrphanLimitExpiryFailsTheLink :
    ((slotState (dueSlot .orphaned false)).slot 2).due = true
      ∧ ((slotState (dueSlot .orphaned false)).slot 2).state = .orphaned := by decide

/-! ### Witnesses: the arbiter, the heads and the drain -/

def oneHead (e : Entry) : State := (onlineState 1).modPort 1 (fun po => { po with queue := [e] })
theorem test_meets_HeadIsEligibleByFiveConditions :
    (oneHead (testEntry 3 .read .issue .complete)).eligibleTier 1 = some .ordinary
      ∧ (oneHead { testEntry 3 .read .issue .complete with urgent := true }).eligibleTier 1 = some .urgent
      ∧ (oneHead (testEntry 3 .write .issue .waitingData)).eligibleTier 1 = none := by decide
theorem test_meets_ArbitrationPicksHighestTierRoundRobin :
    (oneHead (testEntry 3 .read .issue .complete)).winner = some (.ordinary, 1) ∧ State.reset.winner = none := by decide
theorem test_meets_GrantIssuesTheWinner :
    (oneHead (testEntry 3 .read .issue .complete)).winner = some (.ordinary, 1)
      ∧ ((oneHead (testEntry 3 .read .issue .complete)).port 1).queue = testEntry 3 .read .issue .complete :: []
      ∧ ((oneHead (testEntry 3 .read .issue .complete)).slot 0).state = .free ∧ (∀ j : SlotId, ¬j < 0) := by decide
theorem test_meets_EligibleHeadFindsAFreeSlot : LinkSound (oneHead (testEntry 3 .read .issue .complete)) := by
  refine ⟨by decide, by decide, by decide, ?_, by decide⟩
  intro i _
  revert i
  decide
theorem test_meets_HeadsRetireByTheirCase :
    (∀ e ∈ [testEntry 3 .write .refused .complete, testEntry 3 .write .dataerr .complete, testEntry 3 .fence .fence .complete],
        ((oneHead e).port 1).queue = e :: [])
      ∧ (oneHead (testEntry 3 .fence .fence .complete)).link.state ≠ .failed
      ∧ (∀ i, ((oneHead (testEntry 3 .fence .fence .complete)).slot i).state = .free)
      ∧ State.retireStatus
          { oneHead (testEntry 3 .read .issue .complete) with link := { state := .failed, epoch := 1, advertised := 0 } } 1
          = some .aborted
      ∧ State.retireStatus
          { oneHead (testEntry 3 .fence .fence .complete) with link := { state := .failed, epoch := 1, advertised := 0 } } 1
          = some .aborted := by decide
theorem test_meets_DrainCompletesWhenAllIsEmpty :
    (crowded .draining 0 0).mode = .draining ∧ (∀ p, ((crowded .draining 0 0).port p).queue = [])
      ∧ (∀ p, ((crowded .draining 0 0).port p).list = []) ∧ (∀ i, ((crowded .draining 0 0).slot i).state = .free)
      ∧ ((crowded .draining 1 0).port 1).queue ≠ [] := by decide

/-! ### Witnesses: the memory link -/

theorem test_meets_AdvertiseBringsTheLinkOnline :
    State.reset.rstLow = false ∧ State.reset.link.state = .waitCredit ∧ 1 ≤ (1 : Fin 64).val ∧ (32 : Fin 64).val ≤ 32
      ∧ (onlineState 4).link.state ≠ .waitCredit ∧ (0 : Fin 64).val = 0 ∧ 32 < (33 : Fin 64).val := by decide
theorem test_meets_StaleMessageOnlyCounts : State.reset.rstLow = false ∧ (3 : Epoch) ≠ State.reset.link.epoch := by decide
theorem test_meets_MisfitMessageIsDiscarded :
    (State.reset.slot 0).state = .free ∧ ((slotState (testSlot .issued .write 1)).slot 2).dir = .write
      ∧ ((slotState (testSlot .issued .read 1)).slot 2).len ≤ (1 : UnitIndex).val
      ∧ ((slotState { testSlot .returning .read 2 with received := (Tab.const 16 false).setRow 0 true }).slot 2).received.row 0
          = true
      ∧ ((slotState (testSlot .issued .read 1)).slot 2).dir = .read := by decide
theorem test_meets_ReadUnitIsForwarded :
    (∀ sl ∈ [testSlot .issued .read 2, testSlot .returning .read 16],
        (slotState sl).slot 2 = sl ∧ sl.detached = false ∧ sl.received.row 1 = false
          ∧ sl.received.toList.count true + 1 ≠ sl.len ∧ (1 : UnitIndex).val < sl.len)
      ∧ (slotState (testSlot .issued .read 2)).rstLow = false := by decide
theorem test_meets_LastReadUnitAnswersTheRead :
    (slotState (testSlot .issued .read 1)).slot 2 = testSlot .issued .read 1
      ∧ (testSlot .issued .read 1).received.toList.count true + 1 = (testSlot .issued .read 1).len := by decide
theorem test_meets_WriteDoneAnswersTheWrite :
    (slotState (testSlot .issued .write 1)).slot 2 = testSlot .issued .write 1
      ∧ (testSlot .issued .write 1).detached = false := by decide
theorem test_meets_RepliesToAnOrphanAreDiscarded :
    (∀ sl ∈ [testSlot .orphaned .read 1, testSlot .orphaned .read 2, testSlot .orphaned .write 1],
        (slotState sl).slot 2 = sl ∧ sl.received.row 0 = false ∧ sl.state = .orphaned)
      ∧ (testSlot .orphaned .read 1).received.toList.count true + 1 = (testSlot .orphaned .read 1).len
      ∧ (testSlot .orphaned .read 2).received.toList.count true + 1 ≠ (testSlot .orphaned .read 2).len := by decide
theorem test_meets_RepliesToADetachedSlotAreDiscarded :
    (∀ sl ∈ [testSlot .issued .read 1, testSlot .returning .read 2, testSlot .issued .write 1],
        (slotState { sl with detached := true }).slot 2 = { sl with detached := true } ∧ sl.received.row 0 = false)
      ∧ (testSlot .issued .read 1).received.toList.count true + 1 = (testSlot .issued .read 1).len
      ∧ (testSlot .returning .read 2).received.toList.count true + 1 ≠ (testSlot .returning .read 2).len := by decide

/-! ### Witnesses: the management port -/

/-- CS_N low with this transaction. -/
def selected (t : Transaction) : State := { State.reset with mgmt := { transaction := t, csLow := true, sdo := [] } }

/-- After CS_N fell, every command that has a frame is awaited. -/
theorem begunState_awaits (mode : Mode) (c : Instr) (h : (encodeFrame c).getD [] ≠ []) : (begunState mode).awaits c := by
  refine ⟨[], (encodeFrame c).getD [], rfl, h, ?_⟩
  cases hc : encodeFrame c with
  | none => simp [hc] at h
  | some f => rfl

/-- A transaction does not await a command whose frame does not continue what is received. -/
theorem not_awaits {s : State} {c : Instr} (h : s.mgmt.transaction.awaits ((encodeFrame c).getD []) = false) : ¬s.awaits c := by
  intro ha
  obtain ⟨r, rest, _, _, hf⟩ := id ha
  rw [State.awaits_iff hf] at ha
  rw [hf] at h
  simp [ha] at h

theorem test_meets_TransactionFollowsChipSelect :
    State.reset.mgmt.csLow = false ∧ (selected (.begun [])).mgmt.csLow = true
      ∧ (selected (.begun [0x01])).mgmt.transaction = .begun [0x01]
      ∧ (selected (.answered [1] [2])).mgmt.transaction = .answered [1] [2] ∧ (selected .idle).mgmt.transaction = .idle
      ∧ State.reset.sdoReleased = true ∧ (selected .idle).sdoReleased = false
      ∧ (encodeFrame (.readIdent 0)).isSome = true := by decide
theorem test_meets_TransactionFollowsChipSelect_unawaited :
    ¬State.reset.awaits (.readIdent 0) ∧ ¬(selected (.answered [1] [2])).awaits (.readIdent 0)
      ∧ ¬(selected (.begun [0x02])).awaits (.readIdent 0) ∧ ¬(selected (.begun [0x01, 0x00, 0x15])).awaits (.readIdent 0) :=
  ⟨not_awaits (by decide), not_awaits (by decide), not_awaits (by decide), not_awaits (by decide)⟩
theorem test_rest_of_a_frame_is_taken :
    (selected (.begun [0x01, 0x00])).awaits (.readIdent 0) ∧ (Transaction.begun [0x01, 0x00]).position = 2
      ∧ answersWith (.readIdent 0) (selected (.begun [0x01, 0x00])) (fun t => t.mgmt.transaction.received == [0x01, 0x00, 0x15])
          = true := ⟨⟨[0x01, 0x00], [0x15], rfl, by decide, by decide⟩, rfl, by decide⟩
theorem test_meets_FrameErrorsChangeNothing :
    (begunState .pass).awaits (.badFrame 0x20 9 [1] 0) ∧ (Instr.badFrame 0x20 9 [1] 0).wf = true
      ∧ (begunState .pass).awaits (.unknownCommand 0xFF 0) ∧ (Instr.unknownCommand 0xFF 0).wf = true :=
  ⟨begunState_awaits _ _ (by decide), by decide, begunState_awaits _ _ (by decide), by decide⟩
theorem test_meets_PlainReadsReturnTheState :
    (begunState .draining).awaits (.readIdent 0) ∧ (begunState .pass).awaits (.readStatus 255)
      ∧ (begunState .regulate).awaits (.readTiming 0) ∧ (begunState .quiesced).awaits (.readCheckRecord 0) :=
  ⟨begunState_awaits _ _ (by decide), begunState_awaits _ _ (by decide), begunState_awaits _ _ (by decide),
    begunState_awaits _ _ (by decide)⟩
theorem test_meets_RecordReadsReturnTheRecord :
    (begunState .quiesced).awaits (.readRegion 15) ∧ (begunState .pass).awaits (.readAccount 16)
      ∧ (begunState .pass).awaits (.readPort 3) ∧ (begunState .pass).awaits (.readSlot 31)
      ∧ (begunState .pass).awaits (.readCounters 0 2) :=
  ⟨begunState_awaits _ _ (by decide), begunState_awaits _ _ (by decide), begunState_awaits _ _ (by decide),
    begunState_awaits _ _ (by decide), begunState_awaits _ _ (by decide)⟩

/-- The payload of a region of size code 28 and base 0, its selections at both ends of their codes. -/
def regionPayload : Tab 14 Byte := ⟨⟨[0x81, 28, 0, 0, 0, 0, 0, 0xF1, 0x31, 3, 0, 15, 0x80, 1]⟩, rfl⟩
theorem test_meets_WriteRegionReplacesTheEntry :
    16 ≤ (16 : Byte).toNat ∧ (15 : Byte).toNat < 16
      ∧ (parseRegion regionPayload).isSome ∧ parseRegion (regionPayload.setRow 1 29) = none
      ∧ parseRegion (regionPayload.setRow 6 1) = none ∧ parseRegion (regionPayload.setRow 10 16) = none
      ∧ parseRegion (regionPayload.setRow 13 0x81) = none ∧ parseRegion (regionPayload.setRow 9 4) = none
      ∧ (parseRegion regionPayload).map regionBytes = some regionPayload.toList := by decide

def accountPayload : Tab 11 Byte := ⟨⟨[0, 0x81, 0, 100, 0, 100, 2, 1, 1, 0, 1]⟩, rfl⟩
theorem test_meets_WriteAccountReplacesTheParameters :
    (parseAccount accountPayload).isSome ∧ parseAccount (accountPayload.setRow 0 3) = none
      ∧ parseAccount (accountPayload.setRow 5 99) = none ∧ parseAccount (accountPayload.setRow 8 0) = none
      ∧ parseAccount (accountPayload.setRow 10 0) = none
      ∧ parseAccount ((accountPayload.setRow 9 0x10).setRow 10 0) = none
      ∧ AccountClass.realtime.code = accountPayload.row 0 := by decide

def portPayload : Tab 6 Byte := ⟨⟨[1, 16, 15, 1, 1, 3]⟩, rfl⟩
def timingPayload (a b c : Byte) : Tab 7 Byte := ⟨⟨[a, b, c, 0x0F, 0xFF, 0, 1]⟩, rfl⟩
theorem test_meets_QuiescedOnlyWritesReplaceTheSettings :
    (begunState .quiesced).mode = .quiesced ∧ (begunState .draining).mode ≠ .quiesced
      ∧ (parsePort portPayload).isSome ∧ parsePort (portPayload.setRow 0 0) = none ∧ parsePort (portPayload.setRow 1 17) = none
      ∧ parsePort (portPayload.setRow 2 16) = none ∧ parsePort (portPayload.setRow 3 2) = none
      ∧ parsePort (portPayload.setRow 5 4) = none
      ∧ (parseTiming (timingPayload 0 0 16)).isSome ∧ (parseTiming (timingPayload 1 0 0)).isSome
      ∧ parseTiming (timingPayload 0 0 15) = none ∧ parseTiming (timingPayload 1 0 1) = none
      ∧ parseTiming ((timingPayload 0 0 16).setRow 3 0x10) = none ∧ parseTiming ((timingPayload 0 0 16).setRow 6 0) = none
      ∧ NoRegionPolicy.refuse.code = portPayload.row 3 ∧ ReportMode.all.code = portPayload.row 5 := by decide
theorem test_meets_SetModeChangesTheMode :
    (begunState .pass).mode ≠ .draining ∧ (begunState .draining).mode = .draining ∧ 2 < (3 : Byte).toNat
      ∧ (begunState .regulate).drained = true
      ∧ State.drained { crowded .pass 1 0 with mgmt := (begunState .pass).mgmt } = false := by decide
theorem test_meets_ResetLinkRestartsTheLink :
    State.mgmt { slotState (testSlot .issued .read 1) with mgmt := (begunState .pass).mgmt } = (begunState .pass).mgmt := rfl
theorem test_meets_ClearCommandsEmptyRecordAndCounters :
    (Tab.row (Tab.const 2 (0 : Byte)) 0).toNat * 256 + (Tab.row (Tab.const 2 (0 : Byte)) 1).toNat
        = (begunState .pass).chk.record.sequence.toNat
      ∧ (Tab.row (Tab.const 2 (1 : Byte)) 0).toNat * 256 + (Tab.row (Tab.const 2 (1 : Byte)) 1).toNat
        ≠ (begunState .pass).chk.record.sequence.toNat := by decide
theorem test_meets_AlertCommandsAndLine :
    (15 : Byte).toNat < 16 ∧ 16 ≤ (16 : Byte).toNat ∧ (begunState .pass).alertLow = false
      ∧ (State.quiesce (begunState .draining)).alertLow = true := by decide
theorem test_meets_CheckIsRecordedOrSuppressed :
    CheckKind.protection.recordedUnder .memory = false ∧ CheckKind.dataParity.recordedUnder .protection = false
      ∧ CheckKind.dataParity.recordedUnder .all = true ∧ CheckKind.late.recordedUnder .off = true
      ∧ ((State.reset.raise .all (plainCapture .late 0)).chk.record.primary = some (plainCapture .late 0))
      ∧ CheckKind.late.severity ≤ CheckKind.memCorrected.severity ∧ CheckKind.late.severity < CheckKind.linkFailed.severity := by
  decide

/-- Every write and every command of the other statements is awaited once a transaction has begun. -/
theorem test_meets_the_management_writes :
    ∀ c ∈ [Instr.writeRegion 15 regionPayload, .writeAccount 15 accountPayload, .writePort 3 portPayload,
        .writeTiming 0 (timingPayload 0 0 16), .setModePass 0 0, .setModePass 0 3, .setModeRegulate 0, .setModeDrain 0,
        .resetLink 0, .clearChecks 0 (Tab.const 2 0), .clearCounters 0 0, .setAlertMask 0 15, .ackAlert 0 16],
      (begunState .quiesced).awaits c := by
  intro c hc
  refine begunState_awaits _ c ?_
  revert c
  decide

/-! ### Witnesses: the invariants hold of a state that steps -/

theorem test_reset_steps : step State.reset = .next State.reset := rfl
theorem test_meets_AccountsStayInRange : AccountsInRange State.reset := by
  intro a
  simp [State.account, State.reset, State.held, Tab.row, Tab.const, Account.inRange, Account.reset]
theorem test_meets_SettingsQueuesAndWriteDataStaySound_timing : TimingInRange State.reset := by
  simp [TimingInRange, State.reset, State.held]
theorem test_meets_SettingsQueuesAndWriteDataStaySound_regions : RegionsAligned State.reset := by
  intro i
  simp [State.reset, State.held, Tab.row, Tab.const, RegionEntry.reset]
theorem test_meets_SettingsQueuesAndWriteDataStaySound_ports : PortsInRange State.reset := by
  intro p
  revert p
  decide
theorem test_meets_SettingsQueuesAndWriteDataStaySound_buffer : BufferInRange State.reset := ⟨by decide, by decide⟩
theorem test_meets_SettingsQueuesAndWriteDataStaySound_writes : WriteDataSound State.reset := by
  have empty : ∀ p : PortId, (State.reset.port p).list = [] ∧ (State.reset.port p).queue = []
      ∧ (State.reset.bufCounts p).reserve + (State.reset.bufCounts p).shared = 0 := by decide
  intro p
  obtain ⟨hl, hq, hb⟩ := empty p
  rw [hl, hq, hb]
  simp
theorem test_meets_SettingsQueuesAndWriteDataStaySound_issues : IssuesSound State.reset := by
  intro m
  have h : State.reset.mlDn = [.restart 0] := by decide
  rw [h]
  simp only [List.mem_singleton]
  rintro rfl
  trivial
theorem test_meets_CheckRecordStaysSound : CheckRecordSound State.reset := by
  refine .inl ⟨fun k => ?_, rfl, rfl, rfl⟩
  cases k <;> decide
theorem test_meets_SlotsAndLinkStayTogether_clean : SlotsClean State.reset := by
  intro i _
  revert i
  decide
theorem test_meets_SlotsAndLinkStayTogether_link : LinkSound State.reset := by
  refine ⟨by decide, by decide, by decide, ?_, by decide⟩
  intro i
  revert i
  decide
theorem test_meets_OwedCountsAndTagsStayExact_owed : OwedSound State.reset := by
  intro p
  revert p
  decide
theorem test_meets_OwedCountsAndTagsStayExact_limits : OwedWithinLimits State.reset := by
  intro p
  revert p
  decide
theorem test_meets_OwedCountsAndTagsStayExact_tags : TagsSound State.reset := by
  have owes : ∀ (p : PortId) (t : Tag) (i : SlotId), ¬State.reset.owesTag p t i := by
    intro p t i h
    have h1 : ∀ j : SlotId, (State.reset.slot j).owes = false := by decide
    rw [State.owesTag, h1] at h
    exact absurd h.1 (by decide)
  have tags : ∀ (p : PortId) (t : Tag), (State.reset.port p).tags.row t = false := by decide
  have queue : ∀ p : PortId, (State.reset.port p).queue = [] := by decide
  intro p
  refine ⟨fun t => ?_, ?_, fun t i j h => absurd h (owes p t i), fun t i h => absurd h (owes p t i)⟩
  · rw [tags, queue]
    exact ⟨fun h => absurd h (by decide), fun h => h.elim (fun h => by simp at h) (fun ⟨i, h⟩ => absurd h (owes p t i))⟩
  · rw [queue]
    exact List.nodup_nil
theorem test_meets_GuardedSlotsStayApart : GuardedApart State.reset := by
  intro i j _ h
  have h1 : ∀ k : SlotId, (State.reset.slot k).busy = false := by decide
  rw [h1] at h
  exact absurd h (by decide)
/-- Slot 2 holds a read under the guard, and port 1's head is a guarded read that overlaps it. -/
def sharedRead : State :=
  (slotState { testSlot .issued .read 1 with addr := 64, guard := true }).modPort 1 (fun po =>
    { po with queue := [testEntry 3 .read .issue .complete] })
theorem test_meets_GuardedSlotsStayApart_later :
    (sharedRead.slot 0).state = .free
      ∧ answersWith .grant sharedRead (fun t =>
          (t.slot 0).busy && (t.slot 0).guard && (t.slot 2).busy && (t.slot 0).addr == (t.slot 2).addr
            && (t.slot 0).dir == .read) = true := by decide
theorem test_meets_QuiescedStaysEmptyAndNothingWaits : QuiescedEmpty State.reset ∧ Prompt State.reset :=
  ⟨fun h => absurd h (by decide), .inr (by decide)⟩

end Sys2Proof.Machine
end

section
/-! SUPPORT. Matching a region and classifying a request (R3, R9 to R16, Table 1-3). -/

namespace Sys2Proof.Machine

/-! ### The matched region (R3) -/

/-- Clearing the low bits of an address, on numbers. -/
theorem clearLow_toNat (a : Addr) (k : Nat) : ((a >>> k) <<< k).toNat = a.toNat / 2 ^ k * 2 ^ k := by
  have hle : a.toNat / 2 ^ k * 2 ^ k < 2 ^ 40 := Nat.lt_of_le_of_lt (Nat.div_mul_le_self _ _) a.isLt
  rw [BitVec.toNat_shiftLeft, BitVec.toNat_ushiftRight, Nat.shiftRight_eq_div_pow, Nat.shiftLeft_eq, Nat.mod_eq_of_lt hle]

/-- An entry matches an address when it is valid and the address with its low 12 + c bits cleared is its base. -/
theorem RegionEntry.matchesAddr_iff (e : RegionEntry) (a : Addr) :
    e.matchesAddr a = true
      ↔ e.valid = true ∧ (a >>> (12 + e.sizeCode.val)) <<< (12 + e.sizeCode.val) = e.base := by
  rw [← BitVec.toNat_inj, clearLow_toNat, RegionEntry.matchesAddr, Bool.and_eq_true, decide_eq_true_eq]
  rfl

theorem matchedRegion_eq_find? (t : Tab 16 RegionEntry) (a : Addr) :
    matchedRegion t a = Fin.find? (fun i => (t.row i).matchesAddr a) := Fin.find?_eq_find?_finRange.symm

/-- Settles O14: the table is searched from the lowest index, and an entry matches as R3 says. -/
theorem lowestMatchingRegionIsMatched : Obligations.LowestMatchingRegionIsMatched := by
  intro t a hit
  have hhit : ∀ i, (t.row i).matchesAddr a = true ↔ hit i := fun i => (t.row i).matchesAddr_iff a
  have hmiss : ∀ i, (t.row i).matchesAddr a = false ↔ ¬hit i := fun i => by rw [← hhit, Bool.not_eq_true]
  refine ⟨fun i => ?_, ?_⟩
  · rw [matchedRegion_eq_find?, Fin.find?_eq_some_iff, hhit]
    exact and_congr_right fun _ => forall₂_congr fun j _ => hmiss j
  · rw [matchedRegion_eq_find?, Fin.find?_eq_none_iff]
    exact forall_congr' hmiss

/-! ### The checks (R9, R12, R13) -/

theorem malformed_iff (m : RequestMsg) :
    malformed m = true
      ↔ m.addr.toNat % 32 ≠ 0 ∨ m.len.val = 0 ∨ 16 < m.len.val ∨ 2 ^ 40 < m.addr.toNat + 32 * m.len.val
        ∨ m.kind = .unnamed := by
  simp only [malformed, Bool.or_eq_true, decide_eq_true_eq, beq_iff_eq, or_assoc]
  rfl

/-- The last byte lies outside the region exactly when the end of the request lies beyond the end of the region. -/
theorem outsideRegion_iff (e : RegionEntry) {m : RequestMsg} (h : m.len.val ≠ 0) :
    outsideRegion e m = true
      ↔ e.base.toNat + 2 ^ (12 + e.sizeCode.val) - 1 < m.addr.toNat + 32 * m.len.val - 1 := by
  have hlen : 0 < m.len.val := Nat.pos_of_ne_zero h
  have hpos : 0 < 2 ^ (12 + e.sizeCode.val) := Nat.two_pow_pos _
  rw [outsideRegion, decide_eq_true_eq, requestEnd, RegionEntry.bytes]
  change _ < m.addr.toNat + 32 * m.len.val ↔ _
  omega

/-- A request is forbidden when the region does not allow its kind to the port or to the level (R13). -/
theorem forbidden_iff (e : RegionEntry) (p : PortId) {m : RequestMsg} :
    forbidden e p m = false
      ↔ if m.kind = .write then e.writePorts.getLsbD p.val = true ∧ m.level ≤ e.writeLevel
        else e.readPorts.getLsbD p.val = true ∧ m.level ≤ e.readLevel := by
  cases hk : m.kind <;> simp [forbidden, dirOf, hk]

/-! ### The snapshot (Table 1-3) -/

section
variable {am : AdmissionMode} {t : Tab 16 RegionEntry} {cfg : PortConfig} {p : PortId} {m : RequestMsg}

/-- A FENCE is not classified (R17). -/
theorem classify_fence (hf : m.kind = .fence) : classify am t cfg p m = fenceSnapshot := if_pos hf

theorem classify_malformed (hf : m.kind ≠ .fence) (hm : malformed m = true) :
    classify am t cfg p m = refusedBare .malformed := by
  simp [classify, hf, hm]

theorem classify_pass (hf : m.kind ≠ .fence) (hm : malformed m = false) : classify .pass t cfg p m = passSnapshot := by
  simp [classify, hf, hm]

theorem classify_noRegion (hf : m.kind ≠ .fence) (hm : malformed m = false) (hr : matchedRegion t m.addr = none) :
    classify .regulate t cfg p m = noRegionSnapshot cfg := by
  simp [classify, hf, hm, hr]

theorem classify_region (hf : m.kind ≠ .fence) (hm : malformed m = false) {i : RegionId}
    (hr : matchedRegion t m.addr = some i) : classify .regulate t cfg p m = regionSnapshot (t.row i) i cfg p m := by
  simp [classify, hf, hm, hr]

/-- The BOUNDARY check comes first (R12). -/
theorem regionSnapshot_boundary {e : RegionEntry} {i : RegionId} (h : outsideRegion e m = true) :
    regionSnapshot e i cfg p m
      = { disposition := .refused, refusal := some .boundary, region := some i, account := some (chosenAccount e cfg p),
          guard := e.guard, report := e.report } := by
  simp [regionSnapshot, h]

/-- The PROTECTION check comes second (R13). -/
theorem regionSnapshot_protection {e : RegionEntry} {i : RegionId} (h : ¬outsideRegion e m = true)
    (hf : forbidden e p m = true) :
    regionSnapshot e i cfg p m
      = { disposition := .refused, refusal := some .protection, region := some i, account := some (chosenAccount e cfg p),
          guard := e.guard, report := e.report } := by
  simp [regionSnapshot, h, hf]

/-- A request that passes both is to be issued (R14). -/
theorem regionSnapshot_allowed {e : RegionEntry} {i : RegionId} (h : ¬outsideRegion e m = true)
    (hf : ¬forbidden e p m = true) :
    regionSnapshot e i cfg p m
      = { disposition := .issue, refusal := none, region := some i, account := some (chosenAccount e cfg p),
          guard := e.guard, report := e.report } := by
  simp [regionSnapshot, h, hf]

end

theorem noRegionSnapshot_not_fence (cfg : PortConfig) : (noRegionSnapshot cfg).disposition ≠ .fence := by
  unfold noRegionSnapshot
  split <;> exact Disposition.noConfusion

theorem regionSnapshot_not_fence (e : RegionEntry) (i : RegionId) (cfg : PortConfig) (p : PortId) (m : RequestMsg) :
    (regionSnapshot e i cfg p m).disposition ≠ .fence := by
  by_cases ho : outsideRegion e m = true
  · rw [regionSnapshot_boundary ho]
    exact Disposition.noConfusion
  · by_cases hf : forbidden e p m = true
    · rw [regionSnapshot_protection ho hf]
      exact Disposition.noConfusion
    · rw [regionSnapshot_allowed ho hf]
      exact Disposition.noConfusion

/-- Only a FENCE gets the disposition FENCE, and only a well-formed request gets ISSUE (R9, R17). -/
theorem classify_disposition (am : AdmissionMode) (t : Tab 16 RegionEntry) (cfg : PortConfig) (p : PortId) (m : RequestMsg) :
    ((classify am t cfg p m).disposition = .fence → m.kind = .fence)
      ∧ ((classify am t cfg p m).disposition = .issue → 1 ≤ m.len.val ∧ m.len.val ≤ 16 ∧ m.kind ≠ .fence) := by
  by_cases hf : m.kind = .fence
  · rw [classify_fence hf]
    exact ⟨fun _ => hf, fun h => by cases h⟩
  cases hm : malformed m with
  | true =>
    rw [classify_malformed hf hm]
    exact ⟨fun h => (by cases h), fun h => by cases h⟩
  | false =>
    have hlen : 1 ≤ m.len.val ∧ m.len.val ≤ 16 := by
      have hgood := mt (malformed_iff m).mpr (by simp [hm])
      omega
    refine ⟨fun h => absurd h ?_, fun _ => ⟨hlen.1, hlen.2, hf⟩⟩
    cases am with
    | pass =>
      rw [classify_pass hf hm]
      exact Disposition.noConfusion
    | regulate =>
      cases hr : matchedRegion t m.addr with
      | none =>
        rw [classify_noRegion hf hm hr]
        exact noRegionSnapshot_not_fence cfg
      | some i =>
        rw [classify_region hf hm hr]
        exact regionSnapshot_not_fence _ _ cfg p m

/-- Settles O15: malformed first, then the mode, then the matched region with its boundary before its protection. -/
theorem classificationFollowsTheChecks : Obligations.ClassificationFollowsTheChecks := by
  intro am t cfg p m hf bad
  have hgood : ¬bad → malformed m = false := fun hb => by
    rw [← Bool.not_eq_true, malformed_iff]
    exact hb
  refine ⟨fun hb => classify_malformed hf ((malformed_iff m).mpr hb), ?_, ?_, ?_, ?_⟩
  · rintro hb rfl
    exact classify_pass hf (hgood hb)
  · rintro hb rfl hr hn
    rw [classify_noRegion hf (hgood hb) hr, noRegionSnapshot, hn]
    rfl
  · rintro hb rfl hr hn
    rw [classify_noRegion hf (hgood hb) hr, noRegionSnapshot, hn]
  · rintro i hb rfl hr e allowed beyond account
    have hout : outsideRegion e m = true ↔ beyond := outsideRegion_iff e (fun h0 => hb (.inr (.inl h0)))
    have hforb : forbidden e p m = false ↔ allowed := forbidden_iff e p
    rw [classify_region hf (hgood hb) hr]
    refine ⟨fun hbey => regionSnapshot_boundary (hout.mpr hbey), fun hbey hall => ?_, fun hbey hall => ?_⟩
    · exact regionSnapshot_protection (mt hout.mp hbey) (by rwa [← Bool.not_eq_false, hforb])
    · exact regionSnapshot_allowed (mt hout.mp hbey) (by rwa [Bool.not_eq_true, hforb])

end Sys2Proof.Machine
end

section
/-! SUPPORT. Every move keeps the tag sets exact (R111): the tag set of a port, the tags of its queue and the tags of the
slots that owe it an answer change together. -/

namespace Sys2Proof.Machine

/-! ### The shared operations -/

@[simp] theorem State.raiseRefusal_ports (s : State) (p : PortId) (m : RequestMsg) (sn : Snapshot) :
    (s.raiseRefusal p m sn).ports = s.ports := by unfold State.raiseRefusal; split <;> rfl
@[simp] theorem State.raiseRefusal_slots (s : State) (p : PortId) (m : RequestMsg) (sn : Snapshot) :
    (s.raiseRefusal p m sn).slots = s.slots := by unfold State.raiseRefusal; split <;> rfl
@[simp] theorem State.raiseRefusal_buffer (s : State) (p : PortId) (m : RequestMsg) (sn : Snapshot) :
    (s.raiseRefusal p m sn).buffer = s.buffer := by unfold State.raiseRefusal; split <;> rfl
@[simp] theorem State.chargeFor_ports (s : State) (e : Entry) (t : Tier) : (s.chargeFor e t).ports = s.ports := by
  unfold State.chargeFor; split <;> rfl
@[simp] theorem State.chargeFor_slots (s : State) (e : Entry) (t : Tier) : (s.chargeFor e t).slots = s.slots := by
  unfold State.chargeFor; split <;> rfl
@[simp] theorem State.chargeFor_buffer (s : State) (e : Entry) (t : Tier) : (s.chargeFor e t).buffer = s.buffer := by
  unfold State.chargeFor; split <;> rfl
@[simp] theorem State.chargeFor_ticks (s : State) (e : Entry) (t : Tier) : (s.chargeFor e t).ticks = s.ticks := by
  unfold State.chargeFor; split <;> rfl
@[simp] theorem State.chargeFor_timing (s : State) (e : Entry) (t : Tier) : (s.chargeFor e t).timing = s.timing := by
  unfold State.chargeFor; split <;> rfl
@[simp] theorem State.chargeFor_regions (s : State) (e : Entry) (t : Tier) : (s.chargeFor e t).regions = s.regions := by
  unfold State.chargeFor; split <;> rfl
@[simp] theorem State.chargeFor_mlDn (s : State) (e : Entry) (t : Tier) : (s.chargeFor e t).mlDn = s.mlDn := by
  unfold State.chargeFor; split <;> rfl

@[simp] theorem State.accept_ports (s : State) (p : PortId) (m : RequestMsg) :
    (s.accept p m).ports = s.ports.modRow p (fun po => po.enqueue s.mode.admission m (s.snapshotOf p m)) := by
  simp [State.accept]
@[simp] theorem State.accept_slots (s : State) (p : PortId) (m : RequestMsg) : (s.accept p m).slots = s.slots := by
  simp [State.accept]
@[simp] theorem State.accept_buffer (s : State) (p : PortId) (m : RequestMsg) : (s.accept p m).buffer = s.buffer := by
  simp [State.accept]
@[simp] theorem State.rejectDuplicate_ports (s : State) (p : PortId) (m : RequestMsg) :
    (s.rejectDuplicate p m).ports = s.ports.modRow p (fun po => { po with list := po.list ++ newRecord m .sink none }) := rfl
@[simp] theorem State.rejectDuplicate_buffer (s : State) (p : PortId) (m : RequestMsg) :
    (s.rejectDuplicate p m).buffer = s.buffer := rfl
theorem State.dropPort_ports (s : State) (p : PortId) (w : Bool) :
    (s.dropPort p w).ports = s.ports.modRow p (fun po => po.portReset w) := rfl
theorem State.popHead_ports (s : State) (p : PortId) (st : DoneStatus) (e : Entry) (rest : List Entry) :
    (s.popHead p st e rest).ports
      = s.ports.modRow p (fun po => ({ po with queue := rest }.done e.tag st).countDone st) := rfl
theorem State.sinkUnit_ports (s : State) (p : PortId) :
    (s.sinkUnit p).ports = s.ports.modRow p (fun po => po.popData.advanceList .sink) := rfl
theorem State.storeUnit_ports (s : State) (p : PortId) (r : ListRecord) (u : WriteUnitMsg) :
    (s.storeUnit p r u).ports = s.ports.modRow p (fun po =>
      (po.popData.modEntry r.entry (fun e => { e with held := e.held ++ [{ data := u.data, mask := u.mask }] })).advanceList
        .store) := rfl
theorem State.markDataerr_ports (s : State) (p : PortId) (r : ListRecord) (e : Entry) :
    (s.markDataerr p r e).ports = s.ports.modRow p (fun po =>
      (po.popData.modEntry r.entry (fun e => { e with disposition := .dataerr, held := [] })).advanceList .sink) := rfl

/-- Each port after full reset (R64). -/
theorem State.fullReset_port (s : State) (w : Bool) (p : PortId) :
    (s.fullReset w).ports.row p = (s.ports.row p).fullReset p w := by fin_cases p <;> rfl

section
variable (s : State) (t : Tier) (p : PortId) (e : Entry) (rest : List Entry) (i : SlotId)

@[simp] theorem State.grantMove_ports :
    (s.grantMove t p e rest i).ports = s.ports.modRow p (fun po => { po with queue := rest }.owe (dirOf e.kind)) := by
  simp [State.grantMove]
@[simp] theorem State.grantMove_slots : (s.grantMove t p e rest i).slots = s.slots.setRow i (s.slotFor p e) := by
  simp [State.grantMove]
@[simp] theorem State.grantMove_buffer :
    (s.grantMove t p e rest i).buffer = s.buffer.setRow p ((s.buffer.row p).release e.held.length) := by
  simp [State.grantMove]
@[simp] theorem State.grantMove_ticks : (s.grantMove t p e rest i).ticks = s.ticks := by simp [State.grantMove]
@[simp] theorem State.grantMove_timing : (s.grantMove t p e rest i).timing = s.timing := by simp [State.grantMove]
@[simp] theorem State.grantMove_regions : (s.grantMove t p e rest i).regions = s.regions := by simp [State.grantMove]
@[simp] theorem State.grantMove_mlDn : (s.grantMove t p e rest i).mlDn = s.mlDn ++ [s.issueFor i e] := by
  simp [State.grantMove]

end

/-! ### One port's tags -/

/-- One port's part of `TagsSound`: its set, the tags of its queue, and which slots owe it an answer under which tag. -/
structure TagsExact (tags : Tab 32 Bool) (q : List Tag) (owed : Tag → SlotId → Prop) : Prop where
  mem_iff : ∀ t, tags.row t = true ↔ t ∈ q ∨ ∃ i, owed t i
  nodup : q.Nodup
  unique : ∀ t i j, owed t i → owed t j → i = j
  apart : ∀ t i, owed t i → t ∉ q

theorem tagsSound_iff {s : State} :
    TagsSound s ↔ ∀ p, TagsExact (s.ports.row p).tags ((s.ports.row p).queue.map (·.tag)) (s.owesTag p) :=
  forall_congr' fun _ => ⟨fun ⟨a, b, c, d⟩ => ⟨a, b, c, d⟩, fun ⟨a, b, c, d⟩ => ⟨a, b, c, d⟩⟩

theorem TagsExact.empty {owed : Tag → SlotId → Prop} (h : ∀ t i, ¬owed t i) :
    TagsExact (Tab.const 32 false) [] owed where
  mem_iff t := by simp [h]
  nodup := List.nodup_nil
  unique t i _ hi := absurd hi (h t i)
  apart t i hi := absurd hi (h t i)

theorem TagsExact.congr {tags : Tab 32 Bool} {q : List Tag} {owed owed' : Tag → SlotId → Prop}
    (h : TagsExact tags q owed) (ho : ∀ t i, owed' t i ↔ owed t i) : TagsExact tags q owed' := by
  have : owed' = owed := funext fun t => funext fun i => propext (ho t i)
  rwa [this]

/-- A free tag joins the set with its entry (R111). -/
theorem TagsExact.join {tags : Tab 32 Bool} {q : List Tag} {owed : Tag → SlotId → Prop} {x : Tag}
    (h : TagsExact tags q owed) (hx : tags.row x = false) : TagsExact (tags.setRow x true) (q ++ [x]) owed := by
  have hfree : x ∉ q ∧ ∀ i, ¬owed x i := by simpa [hx] using h.mem_iff x
  refine ⟨fun t => ?_, ?_, h.unique, fun t i hi => ?_⟩
  · by_cases ht : t = x
    · simp [ht]
    · simp [ht, h.mem_iff t]
  · simpa using h.nodup.append (List.nodup_singleton x) (by simpa using hfree.1)
  · have hne : t ≠ x := fun e => hfree.2 i (e ▸ hi)
    simpa [hne] using h.apart t i hi

/-- The tag of an entry that retires leaves the set (R44, R111). -/
theorem TagsExact.leave {tags : Tab 32 Bool} {q : List Tag} {owed : Tag → SlotId → Prop} {x : Tag}
    (h : TagsExact tags (x :: q) owed) : TagsExact (tags.setRow x false) q owed := by
  obtain ⟨hx, hq⟩ := List.nodup_cons.mp h.nodup
  have hox : ∀ i, ¬owed x i := fun i hi => h.apart x i hi List.mem_cons_self
  refine ⟨fun t => ?_, hq, h.unique, fun t i hi ht => h.apart t i hi (List.mem_cons_of_mem x ht)⟩
  by_cases ht : t = x
  · simp [ht, hx, hox]
  · simp [ht, h.mem_iff t]

/-- The tag of a slot that answers leaves the set (R111, R121). -/
theorem TagsExact.answer {tags : Tab 32 Bool} {q : List Tag} {owed owed' : Tag → SlotId → Prop} {x : Tag} {i : SlotId}
    (h : TagsExact tags q owed) (hi : ∀ t, owed t i ↔ t = x) (ho : ∀ t j, owed' t j ↔ j ≠ i ∧ owed t j) :
    TagsExact (tags.setRow x false) q owed' := by
  have hxi : owed x i := (hi x).mpr rfl
  refine ⟨fun t => ?_, h.nodup, fun t j k hj hk => h.unique t j k ((ho t j).mp hj).2 ((ho t k).mp hk).2,
    fun t j hj => h.apart t j ((ho t j).mp hj).2⟩
  by_cases ht : t = x
  · subst ht
    have : ∀ j, ¬owed' t j := fun j hj => ((ho t j).mp hj).1 (h.unique t j i ((ho t j).mp hj).2 hxi)
    simp [h.apart t i hxi, this]
  · have hti : ∀ j, owed' t j ↔ owed t j := fun j =>
      ⟨fun hj => ((ho t j).mp hj).2, fun hj => (ho t j).mpr ⟨fun e => ht ((hi t).mp (e ▸ hj)), hj⟩⟩
    simp [ht, h.mem_iff t, hti]

/-- The tag of a granted entry passes from the queue to its slot (R58, R111). -/
theorem TagsExact.grant {tags : Tab 32 Bool} {q : List Tag} {owed owed' : Tag → SlotId → Prop} {x : Tag} {i : SlotId}
    (h : TagsExact tags (x :: q) owed) (hi : ∀ t, ¬owed t i) (ho : ∀ t j, owed' t j ↔ j = i ∧ t = x ∨ owed t j) :
    TagsExact tags q owed' := by
  obtain ⟨hx, hq⟩ := List.nodup_cons.mp h.nodup
  have hox : ∀ j, ¬owed x j := fun j hj => h.apart x j hj List.mem_cons_self
  refine ⟨fun t => ?_, hq, fun t j k hj hk => ?_, fun t j hj ht => ?_⟩
  · simp only [h.mem_iff t, ho, List.mem_cons, exists_or, exists_eq_left]
    tauto
  · rcases (ho t j).mp hj with ⟨rfl, rfl⟩ | hj <;> rcases (ho t k).mp hk with ⟨rfl, ht⟩ | hk
    · rfl
    · exact absurd hk (hox k)
    · exact absurd (ht ▸ hj) (hox j)
    · exact h.unique t j k hj hk
  · rcases (ho t j).mp hj with ⟨-, rfl⟩ | hj
    · exact hx ht
    · exact h.apart t j hj (List.mem_cons_of_mem x ht)

/-! ### The tags of every port -/

theorem State.owesTag_iff (s : State) (p : PortId) (t : Tag) (i : SlotId) :
    s.owesTag p t i ↔ (s.slots.row i).owes = true ∧ (s.slots.row i).port = p ∧ (s.slots.row i).tag = t := Iff.rfl

@[simp] theorem Slot.owes_reset : Slot.reset.owes = false := rfl

theorem Slot.owes_free {sl : Slot} (h : sl.busy = false) : sl.owes = false := by
  have : sl.state = .free := by simpa [Slot.busy] using h
  simp [Slot.owes, this]

/-- A slot in use owes unless it is ORPHANED or detached (R65). -/
theorem Slot.owes_of_busy {sl : Slot} (h : sl.state ≠ .free) : sl.owes = (sl.state != .orphaned && !sl.detached) := by
  unfold Slot.owes
  revert h
  cases sl.state <;> simp

/-- The slot as a timeout leaves it (R80, R81). -/
def Slot.orphanedAt (sl : Slot) (stamp : Word32) : Slot :=
  { sl with state := .orphaned, orphanTick := some stamp, timeOrphaned := 0, due := false }

theorem State.orphanSlot_eq (s : State) (i : SlotId) :
    s.orphanSlot i = s.setSlot i ((s.slots.row i).orphanedAt s.ticks.stamp) := rfl

@[simp] theorem Slot.owes_orphanedAt (sl : Slot) (stamp : Word32) : (sl.orphanedAt stamp).owes = false := rfl

/-- What the slots owe after one slot is replaced. -/
theorem State.owesTag_setSlot (s : State) (i : SlotId) (x : Slot) (p : PortId) (t : Tag) (j : SlotId) :
    (s.setSlot i x).owesTag p t j
      ↔ j = i ∧ x.owes = true ∧ x.port = p ∧ x.tag = t ∨ j ≠ i ∧ s.owesTag p t j := by
  simp only [State.owesTag_iff, State.setSlot_slots, Tab.row_setRow]
  by_cases h : j = i <;> simp [h]

/-- Ports with the same set and the same queued tags, and slots that owe the same, keep the tag sets exact. -/
theorem TagsSound.of_same {s t : State} (h : TagsSound s) (htags : ∀ p, (t.ports.row p).tags = (s.ports.row p).tags)
    (hq : ∀ p, (t.ports.row p).queue.map (·.tag) = (s.ports.row p).queue.map (·.tag))
    (ho : ∀ p x i, t.owesTag p x i ↔ s.owesTag p x i) : TagsSound t := by
  rw [tagsSound_iff] at h ⊢
  intro p
  rw [htags, hq]
  exact (h p).congr (ho p)

theorem TagsSound.of_tables {s t : State} (h : TagsSound s) (hp : t.ports = s.ports) (hs : t.slots = s.slots) :
    TagsSound t :=
  h.of_same (fun _ => by rw [hp]) (fun _ => by rw [hp]) (fun _ _ _ => by rw [State.owesTag_iff, State.owesTag_iff, hs])

/-- A change of one port that keeps its set and its queued tags. -/
theorem TagsSound.modPort {s : State} (h : TagsSound s) {p : PortId} {f : Port → Port}
    (htags : (f (s.ports.row p)).tags = (s.ports.row p).tags)
    (hq : (f (s.ports.row p)).queue.map (·.tag) = (s.ports.row p).queue.map (·.tag)) : TagsSound (s.modPort p f) := by
  refine h.of_same (fun q => ?_) (fun q => ?_) (fun _ _ _ => Iff.rfl)
  · by_cases e : q = p
    · subst e; simpa using htags
    · simp [e]
  · by_cases e : q = p
    · subst e; simpa using hq
    · simp [e]

/-- A change of one slot after which it owes the same. -/
theorem TagsSound.setSlot {s : State} (h : TagsSound s) {i : SlotId} {x : Slot} (ho : x.owes = (s.slots.row i).owes)
    (hp : x.port = (s.slots.row i).port) (ht : x.tag = (s.slots.row i).tag) : TagsSound (s.setSlot i x) := by
  refine h.of_same (fun _ => rfl) (fun _ => rfl) (fun p y j => ?_)
  rw [State.owesTag_setSlot, ho, hp, ht]
  by_cases e : j = i
  · subst e; simp [State.owesTag_iff]
  · simp [e]

/-- A slot that owes nothing may change into any other that owes nothing. -/
theorem TagsSound.setSlot_silent {s : State} (h : TagsSound s) {i : SlotId} {x : Slot} (hx : x.owes = false)
    (hi : (s.slots.row i).owes = false) : TagsSound (s.setSlot i x) := by
  refine h.of_same (fun _ => rfl) (fun _ => rfl) (fun p y j => ?_)
  rw [State.owesTag_setSlot, hx]
  by_cases e : j = i
  · subst e; simp [State.owesTag_iff, hi]
  · simp [e]

/-- A change that touches the tags of one port alone. -/
theorem TagsSound.of_port {s t : State} (h : TagsSound s) (p : PortId)
    (hp : TagsExact (t.ports.row p).tags ((t.ports.row p).queue.map (·.tag)) (t.owesTag p))
    (hq : ∀ q, q ≠ p → t.ports.row q = s.ports.row q) (ho : ∀ q, q ≠ p → ∀ x i, t.owesTag q x i ↔ s.owesTag q x i) :
    TagsSound t := by
  rw [tagsSound_iff] at h ⊢
  intro q
  by_cases e : q = p
  · rwa [e]
  · rw [hq q e]
    exact (h q).congr (ho q e)

/-- A slot that answers sends its DONE and owes no more. -/
theorem TagsSound.answer {s : State} (h : TagsSound s) {i : SlotId} {x : Slot} (st : DoneStatus) (hx : x.owes = false)
    (hi : (s.slots.row i).owes = true) : TagsSound ((s.answerSlot (s.slots.row i) st).setSlot i x) := by
  have ho : ∀ q t j, ((s.answerSlot (s.slots.row i) st).setSlot i x).owesTag q t j ↔ j ≠ i ∧ s.owesTag q t j := by
    intro q t j
    rw [State.owesTag_setSlot, hx]
    simp [State.owesTag_iff]
  refine h.of_port (s.slots.row i).port ?_ (fun q hq => by simp [hq]) (fun q hq t j => (ho q t j).trans ?_)
  · simpa using (tagsSound_iff.mp h _).answer (x := (s.slots.row i).tag) (i := i)
      (by simp [State.owesTag_iff, hi, eq_comm]) (ho _)
  · refine and_iff_right_of_imp (fun hj e => hq ?_)
    obtain ⟨-, hport, -⟩ := hj
    rw [← hport, e]
    rfl

/-- The freeing of every slot answers for those that owe (R84). -/
theorem TagsSound.freeAllSlots {s : State} (h : TagsSound s) : TagsSound s.freeAllSlots := by
  refine State.freeAllSlots_keeps (P := TagsSound) (fun u i hu => ?_) h
  unfold State.abortSlot
  split
  · next hi => exact hu.answer .aborted Slot.owes_reset hi
  · next hi => exact hu.setSlot_silent Slot.owes_reset (by simpa using hi)

/-! ### Every move -/

theorem Port.advanceList_queue_tags (po : Port) (m : RecordMode) :
    (po.advanceList m).queue.map (·.tag) = po.queue.map (·.tag) := by
  rcases po.advanceList_queue m with h | ⟨t, h⟩
  · rw [h]
  · rw [h, List.map_map]
    exact List.map_congr_left (fun e _ => by simp only [Function.comp]; split <;> rfl)

theorem Port.modEntry_queue_tags (po : Port) (t : Option Tag) {f : Entry → Entry} (hf : ∀ e, (f e).tag = e.tag) :
    (po.modEntry t f).queue.map (·.tag) = po.queue.map (·.tag) := by
  rw [Port.modEntry_queue, List.map_map]
  exact List.map_congr_left (fun e _ => by simp only [Function.comp]; split <;> simp [hf])

/-- Port reset: the port's tags go with its queue, and its slots owe nothing more (R83, R125). -/
theorem TagsSound.dropPort {s : State} (h : TagsSound s) (p : PortId) (w : Bool) : TagsSound (s.dropPort p w) := by
  have hsl : ∀ q t i, (s.dropPort p w).owesTag q t i ↔ q ≠ p ∧ s.owesTag q t i := by
    intro q t i
    have : (s.dropPort p w).slots.row i = (s.slots.row i).portReset p := by simp [State.dropPort]
    simp only [State.owesTag_iff, this, Slot.portReset]
    split
    · next hb =>
      simp only [Bool.and_eq_true, beq_iff_eq] at hb
      simp only [Slot.owes, hb.2, Bool.not_true, Bool.and_false]
      constructor
      · simp
      · rintro ⟨hq, -, rfl, -⟩; exact absurd rfl hq
    · next hb =>
      refine ⟨fun ho => ⟨?_, ho⟩, fun ho => ho.2⟩
      rintro rfl
      refine hb ?_
      obtain ⟨hst, hport, -⟩ := ho
      simp only [Bool.and_eq_true, beq_iff_eq, hport, and_true, Slot.busy]
      revert hst
      cases hs : (s.slots.row i).state <;> simp [Slot.owes, hs]
  rw [tagsSound_iff] at h ⊢
  intro q
  by_cases e : q = p
  · subst e
    simpa [State.dropPort, Port.portReset] using TagsExact.empty (fun t i ho => ((hsl q t i).mp ho).1 rfl)
  · simpa [State.dropPort, e] using (h q).congr (fun t i => (hsl q t i).trans (and_iff_right e))

/-- The tag of the accepted request joins the set and the queue (R110, R111). -/
theorem TagsSound.accept {s : State} (h : TagsSound s) {p : PortId} {m : RequestMsg}
    (hd : (s.ports.row p).tags.row m.tag = false) : TagsSound (s.accept p m) := by
  have ho : ∀ q t i, (s.accept p m).owesTag q t i ↔ s.owesTag q t i := by
    intro q t i; simp [State.owesTag_iff]
  refine h.of_port p ?_ (fun q hq => by simp [hq]) (fun q _ => ho q)
  simpa [newEntry] using ((tagsSound_iff.mp h p).join hd).congr (ho p)

/-- The tag of the retired head leaves the set and the queue (R44, R111). -/
theorem TagsSound.popHead {s : State} (h : TagsSound s) {p : PortId} (st : DoneStatus) {e : Entry} {rest : List Entry}
    (hq : (s.ports.row p).queue = e :: rest) : TagsSound (s.popHead p st e rest) := by
  refine h.of_port p ?_ (fun q hq => by simp [State.popHead, hq]) (fun _ _ _ _ => Iff.rfl)
  have hx := tagsSound_iff.mp h p
  rw [hq, List.map_cons] at hx
  have hl : TagsExact _ _ ((s.popHead p st e rest).owesTag p) := hx.leave
  simpa [State.popHead] using hl

/-- The tag of the granted head passes to the FREE slot it takes (R59, R67, R111). -/
theorem TagsSound.grantMove {s : State} (h : TagsSound s) {t : Tier} {p : PortId} {e : Entry} {rest : List Entry}
    {i : SlotId} (hq : (s.ports.row p).queue = e :: rest) (hi : (s.slots.row i).owes = false) :
    TagsSound (s.grantMove t p e rest i) := by
  have ho : ∀ q x j, (s.grantMove t p e rest i).owesTag q x j
      ↔ j = i ∧ q = p ∧ x = e.tag ∨ s.owesTag q x j := by
    intro q x j
    simp only [State.owesTag_iff, State.grantMove_slots, Tab.row_setRow]
    by_cases hj : j = i
    · subst hj
      rw [if_pos rfl]
      constructor
      · rintro ⟨-, rfl, rfl⟩
        exact .inl ⟨rfl, rfl, rfl⟩
      · rintro (⟨-, rfl, rfl⟩ | ⟨ho, -⟩)
        · exact ⟨rfl, rfl, rfl⟩
        · rw [hi] at ho; cases ho
    · simp [hj]
  refine h.of_port p ?_ (fun q hq => by simp [hq]) (fun q hq x j => by simpa [hq] using ho q x j)
  have hx := tagsSound_iff.mp h p
  rw [hq, List.map_cons] at hx
  simpa using hx.grant (i := i) (by simp [State.owesTag_iff, hi]) (fun x j => by simpa using ho p x j)

/-- A tick leaves what a slot owes and to whom (R79). -/
theorem Slot.owes_tick (sl : Slot) (t : SlotTiming) :
    (sl.tick t).owes = sl.owes ∧ (sl.tick t).port = sl.port ∧ (sl.tick t).tag = sl.tag := by
  unfold Slot.tick
  split <;> exact ⟨rfl, rfl, rfl⟩

/-- Every move keeps the tag sets exact (R111). -/
theorem Move.keeps_tagsSound {s t : State} (m : Move s t) (h : TagsSound s) : TagsSound t := by
  cases m with
  | fullReset w =>
    rw [tagsSound_iff]
    intro p
    have ho : ∀ x i, ¬(s.fullReset w).owesTag p x i := by
      intro x i; simp [State.owesTag_iff, State.fullReset, State.held]
    rw [State.fullReset_port]
    exact .empty ho
  | dropPort p w => exact h.dropPort p w
  | accept p m rest hq ht hd =>
    exact TagsSound.accept (h.modPort (f := fun po => { po with reqOffers := rest }) rfl rfl) (by simpa using hd)
  | duplicate p m rest hq ht hd =>
    have h1 := h.modPort (p := p) (f := fun po => { po with reqOffers := rest }) rfl rfl
    exact TagsSound.modPort (s := (s.modPort p _).raise _ _) h1 rfl rfl
  | releaseLine p => exact h.modPort rfl rfl
  | offerRequest p m => exact h.modPort rfl rfl
  | offerUnit p u => exact h.modPort rfl rfl
  | stray p u us hd hl => exact TagsSound.modPort (s := s.raise _ _) h rfl rfl
  | sink p u us r rs hd hl hm =>
    exact h.modPort (by simp) (Port.advanceList_queue_tags _ _)
  | store p u us r rs hc =>
    exact TagsSound.modPort (s := s.setBuf _ _) h (by simp)
      ((Port.advanceList_queue_tags _ _).trans (Port.modEntry_queue_tags _ _ (fun _ => rfl)))
  | dataerr p u us r rs e hd hl hm he =>
    exact TagsSound.modPort (s := s.raiseParity p e) h (by simp)
      ((Port.advanceList_queue_tags _ _).trans (Port.modEntry_queue_tags _ _ (fun _ => rfl)))
  | pop p st e rest hq hs => exact h.popHead st hq
  | mark p => exact h.modPort (by split <;> rfl) (by split <;> simp [*])
  | timeout i hd =>
    have ho : (s.slots.row i).owes = true := by
      simp only [State.timeoutIsDue, Bool.and_eq_true] at hd; exact hd.2
    exact h.answer (x := s.slots.row i |>.orphanedAt s.ticks.stamp) .timeout (Slot.owes_orphanedAt _ _) ho
  | orphan i hd =>
    have hdet : (s.slots.row i).detached = true := by
      simp only [State.detachedIsDue, Bool.and_eq_true] at hd
      obtain ⟨⟨-, hdet⟩, -⟩ := hd
      exact hdet
    rw [State.orphanSlot_eq]
    exact h.setSlot_silent (Slot.owes_orphanedAt _ _) (by simp [Slot.owes, hdet])
  | linkFail i hd =>
    have hf := TagsSound.freeAllSlots
      (s := { s with link := { state := .failed, epoch := s.link.epoch + 1, advertised := 0 } }) h
    exact hf.of_tables (by simp [State.linkFail]) (by simp [State.linkFail])
  | resetLink hd => exact h.freeAllSlots.of_tables (by simp [State.resetLink]) (by simp [State.resetLink])
  | tick hr =>
    refine h.of_same (fun p => by simp [State.tickWork]) (fun p => ?_) (fun p x i => ?_)
    · have ht : ∀ q, (s.tickQueue q).map (·.tag) = q.map (·.tag) := by
        intro q; cases q <;> simp [State.tickQueue, Entry.older]
      simpa [State.tickWork] using ht _
    · obtain ⟨h1, h2, h3⟩ := (s.slots.row i).owes_tick s.timing
      simp [State.owesTag_iff, State.tickWork, h1, h2, h3]
  | grant t p e rest i hw hi hq =>
    have hb : (s.slots.row i).busy = false := by simpa using List.find?_some hi
    exact h.grantMove hq (Slot.owes_free hb)
  | progress i sl hb hsl =>
    obtain ⟨st, rc, po, hf, ho, rfl⟩ := hsl
    refine h.setSlot ?_ rfl rfl
    rw [Slot.owes_of_busy hf, Slot.owes_of_busy (by simpa [Slot.busy] using hb)]
    have hst : (st != .orphaned) = ((s.slots.row i).state != .orphaned) := by
      rw [Bool.eq_iff_iff, bne_iff_ne, bne_iff_ne]
      exact not_congr ho
    rw [hst]
  | answer i st ho => exact h.answer st Slot.owes_reset ho
  | free i hi => exact h.setSlot_silent Slot.owes_reset hi
  | forward p m => exact h.modPort rfl rfl
  | writePort p c => exact h.modPort rfl rfl
  | clearGroup g => 
    cases g with
    | port p => exact h.modPort rfl rfl
    | account a => exact h
    | global => exact h
  | releaseRst | quiesce | count | raise | countStale | countLate | goOnline | setMgmt | setRegion | writeAccount
  | writeTiming | setMode | setDraining | clearRecord | setMask | ack => exact h

end Sys2Proof.Machine
end

section
/-! SUPPORT. Every move keeps the write data sound (R88, R114, R115, R118): the data order list of a port, the entries that
wait for it and the buffer units they hold change together. -/

namespace Sys2Proof.Machine

/-! ### An entry's write data -/

theorem Entry.waitsFor.record_entry {e : Entry} {r : ListRecord} (h : e.waitsFor r) : r.entry = some e.tag := h.1

theorem Entry.waitsFor.waiting {e : Entry} {r : ListRecord} (h : e.waitsFor r) : e.data = .waitingData := h.2.2.1

theorem Entry.dataSound.write_of_waiting {e : Entry} (h : e.dataSound) (hd : e.data = .waitingData) :
    e.kind = .write ∧ e.disposition ≠ .fence := h.1 hd

theorem Entry.dataSound.units_of_issue {e : Entry} (h : e.dataSound) (hi : e.disposition = .issue) :
    1 ≤ e.units ∧ e.units ≤ 16 := h.2.1 hi

theorem Entry.dataSound.held_of_complete {e : Entry} (h : e.dataSound) (hi : e.disposition = .issue) (hk : e.kind = .write)
    (hd : e.data = .complete) : e.held.length = e.units := h.2.2.1 hi hk hd

theorem Entry.dataSound.held_nil {e : Entry} (h : e.dataSound) (hn : e.disposition ≠ .issue) : e.held = [] :=
  h.2.2.2 (.inl hn)

theorem ListRecord.inRange.expected_le {r : ListRecord} (h : r.inRange) : r.expected ≤ 31 := h.2.1

/-! ### One port's write data -/

/-- One port's part of `WriteDataSound`: its queue, its data order list and the buffer units it holds. -/
structure DataSound (q : List Entry) (l : List ListRecord) (units : Nat) : Prop where
  records : ∀ r ∈ l, r.inRange ∧ ∀ t, r.entry = some t → ∃ e ∈ q, e.tag = t ∧ e.waitsFor r
  distinct : (l.filterMap (·.entry)).Nodup
  entries : ∀ e ∈ q, e.dataSound ∧ (e.data = .waitingData → ∃ r ∈ l, r.entry = some e.tag)
  held : units = (q.map (·.held.length)).sum

/-- The buffer units a port holds (R118). -/
def BufCounts.total (b : BufCounts) : Nat := b.reserve + b.shared

theorem writeDataSound_iff {s : State} :
    WriteDataSound s
      ↔ ∀ p, DataSound (s.ports.row p).queue (s.ports.row p).list (s.buffer.row p).total :=
  forall_congr' fun _ => ⟨fun ⟨a, b, c, d⟩ => ⟨a, b, c, d⟩, fun ⟨a, b, c, d⟩ => ⟨a, b, c, d⟩⟩

theorem DataSound.empty : DataSound [] [] 0 where
  records _ h := by cases h
  distinct := List.nodup_nil
  entries _ h := by cases h
  held := rfl

/-- A discard record joins the list (R112, R114). -/
theorem DataSound.discard {q : List Entry} {l : List ListRecord} {n : Nat} (h : DataSound q l n) {r : ListRecord}
    (hr : r.inRange) (he : r.entry = none) : DataSound q (l ++ [r]) n where
  records r' hm := by
    rcases List.mem_append.mp hm with hm | hm
    · exact h.records r' hm
    · rw [List.mem_singleton.mp hm]
      exact ⟨hr, fun t ht => by rw [he] at ht; cases ht⟩
  distinct := by simpa [he] using h.distinct
  entries e hm := ⟨(h.entries e hm).1, fun hw => by
    obtain ⟨r', hr', hre⟩ := (h.entries e hm).2 hw
    exact ⟨r', List.mem_append_left _ hr', hre⟩⟩
  held := h.held

/-- An entry that waits for no data joins the queue (R110). -/
theorem DataSound.enqueue {q : List Entry} {l : List ListRecord} {n : Nat} (h : DataSound q l n) {e : Entry}
    (hs : e.dataSound) (hd : e.data = .complete) (hh : e.held = []) : DataSound (q ++ [e]) l n where
  records r hm := ⟨(h.records r hm).1, fun t ht => by
    obtain ⟨e', he', hw⟩ := (h.records r hm).2 t ht
    exact ⟨e', List.mem_append_left _ he', hw⟩⟩
  distinct := h.distinct
  entries e' hm := by
    rcases List.mem_append.mp hm with hm | hm
    · exact h.entries e' hm
    · rw [List.mem_singleton.mp hm]
      exact ⟨hs, fun hw => by rw [hd] at hw; cases hw⟩
  held := by simpa [hh] using h.held

/-- A write that waits for its data joins the queue with its record (R110, R114). -/
theorem DataSound.enqueueWrite {q : List Entry} {l : List ListRecord} {n : Nat} (h : DataSound q l n) {e : Entry}
    {r : ListRecord} (hs : e.dataSound) (hh : e.held = []) (hr : r.inRange) (hw : e.waitsFor r)
    (hfree : e.tag ∉ q.map (·.tag)) : DataSound (q ++ [e]) (l ++ [r]) n where
  records r' hm := by
    rcases List.mem_append.mp hm with hm | hm
    · refine ⟨(h.records r' hm).1, fun t ht => ?_⟩
      obtain ⟨e', he', hw'⟩ := (h.records r' hm).2 t ht
      exact ⟨e', List.mem_append_left _ he', hw'⟩
    · rw [List.mem_singleton.mp hm]
      refine ⟨hr, fun t ht => ⟨e, by simp, ?_, hw⟩⟩
      rw [hw.record_entry] at ht
      exact Option.some.inj ht
  distinct := by
    rw [List.filterMap_append]
    refine h.distinct.append (by simp [hw.record_entry]) (fun t ht ht' => hfree ?_)
    obtain ⟨r', hr', hre⟩ := List.mem_filterMap.mp ht
    obtain ⟨e', he', het, -⟩ := (h.records r' hr').2 t hre
    have : e.tag = t := by simpa [hw.record_entry, eq_comm] using ht'
    exact List.mem_map.mpr ⟨e', he', het.trans this.symm⟩
  entries e' hm := by
    rcases List.mem_append.mp hm with hm | hm
    · refine ⟨(h.entries e' hm).1, fun hwait => ?_⟩
      obtain ⟨r', hr', hre⟩ := (h.entries e' hm).2 hwait
      exact ⟨r', List.mem_append_left _ hr', hre⟩
    · rw [List.mem_singleton.mp hm]
      exact ⟨hs, fun _ => ⟨r, by simp, hw.record_entry⟩⟩
  held := by simpa [hh] using h.held

/-- A head whose data is complete leaves, and its units with it (R44, R58). -/
theorem DataSound.dequeue {q : List Entry} {l : List ListRecord} {n : Nat} {e : Entry} (h : DataSound (e :: q) l n)
    (hd : e.data = .complete) (hn : ((e :: q).map (·.tag)).Nodup) : DataSound q l (n - e.held.length) where
  records r hm := ⟨(h.records r hm).1, fun t ht => by
    obtain ⟨e', he', het, hw⟩ := (h.records r hm).2 t ht
    rcases List.mem_cons.mp he' with rfl | he'
    · have := hw.waiting; rw [hd] at this; cases this
    · exact ⟨e', he', het, hw⟩⟩
  distinct := h.distinct
  entries e' hm := h.entries e' (List.mem_cons_of_mem e hm)
  held := by rw [h.held, List.map_cons, List.sum_cons]; omega

/-- An oldest record without an entry takes a unit: a record that goes on takes its place, or none does. -/
theorem DataSound.advance_discard {q : List Entry} {r : ListRecord} {rs l : List ListRecord} {n : Nat}
    (h : DataSound q (r :: rs) n) (hr : r.entry = none)
    (hl : l = rs ∨ ∃ r', l = r' :: rs ∧ r'.inRange ∧ r'.entry = none) : DataSound q l n := by
  have hrs : DataSound q rs n :=
    { records := fun r' hm => h.records r' (List.mem_cons_of_mem r hm)
      distinct := by simpa [hr] using h.distinct
      entries := fun e hm => ⟨(h.entries e hm).1, fun hw => by
        obtain ⟨r', hr', hre⟩ := (h.entries e hm).2 hw
        rcases List.mem_cons.mp hr' with rfl | hr'
        · rw [hr] at hre; cases hre
        · exact ⟨r', hr', hre⟩⟩
      held := h.held }
  rcases hl with rfl | ⟨r', rfl, hr', he'⟩
  · exact hrs
  · refine ⟨fun r'' hm => ?_, by simpa [he'] using hrs.distinct, fun e hm => ⟨(hrs.entries e hm).1, fun hw => ?_⟩, hrs.held⟩
    · rcases List.mem_cons.mp hm with rfl | hm
      · exact ⟨hr', fun t ht => by rw [he'] at ht; cases ht⟩
      · exact hrs.records r'' hm
    · obtain ⟨r'', hr'', hre⟩ := (hrs.entries e hm).2 hw
      exact ⟨r'', List.mem_cons_of_mem r' hr'', hre⟩

/-- The oldest record takes a unit for its entry `e`, which becomes `e'`: the record goes on and `e'` waits for it, or it
leaves and the data of `e'` is complete (R115, R117). -/
theorem DataSound.advance {a b : List Entry} {e e' : Entry} {r : ListRecord} {rs l : List ListRecord} {n n' : Nat}
    (h : DataSound (a ++ e :: b) (r :: rs) n) (hn : ((a ++ e :: b).map (·.tag)).Nodup) (hr : r.entry = some e.tag)
    (ht : e'.tag = e.tag) (hs : e'.dataSound)
    (hl : (l = rs ∧ e'.data = .complete) ∨ ∃ r', l = r' :: rs ∧ r'.inRange ∧ e'.waitsFor r')
    (hu : n' + e.held.length = n + e'.held.length) : DataSound (a ++ e' :: b) l n' := by
  have hother : ∀ r' ∈ rs, r'.entry ≠ some e.tag := by
    intro r' hm hre
    have hd := h.distinct
    rw [List.filterMap_cons_some hr, List.nodup_cons] at hd
    exact hd.1 (List.mem_filterMap.mpr ⟨r', hm, hre⟩)
  have htag : ∀ x ∈ a ++ b, x.tag ≠ e.tag := by
    intro x hx hxe
    have hp : ((e :: (a ++ b)).map (·.tag)).Perm ((a ++ e :: b).map (·.tag)) := List.perm_middle.symm.map _
    have := (List.nodup_cons.mp (hp.nodup_iff.mpr hn)).1
    exact this (List.mem_map.mpr ⟨x, hx, hxe⟩)
  have hrest : ∀ r' ∈ rs, r'.inRange ∧ ∀ t, r'.entry = some t → ∃ x ∈ a ++ e' :: b, x.tag = t ∧ x.waitsFor r' := by
    intro r' hm
    refine ⟨(h.records r' (List.mem_cons_of_mem r hm)).1, fun t hre => ?_⟩
    obtain ⟨x, hx, hxt, hw⟩ := (h.records r' (List.mem_cons_of_mem r hm)).2 t hre
    have hxe : x ≠ e := by rintro rfl; exact hother r' hm (hxt ▸ hre)
    exact ⟨x, by simp only [List.mem_append, List.mem_cons] at hx ⊢; tauto, hxt, hw⟩
  have hkeep : ∀ x ∈ a ++ b, x.dataSound ∧ (x.data = .waitingData → ∃ r' ∈ rs, r'.entry = some x.tag) := by
    intro x hx
    obtain ⟨hxs, hxw⟩ := h.entries x (by simp only [List.mem_append, List.mem_cons] at hx ⊢; tauto)
    refine ⟨hxs, fun hw => ?_⟩
    obtain ⟨r', hr', hre⟩ := hxw hw
    rcases List.mem_cons.mp hr' with rfl | hr'
    · rw [hr] at hre; exact absurd (Option.some.inj hre).symm (htag x hx)
    · exact ⟨r', hr', hre⟩
  have hheld : n' = ((a ++ e' :: b).map (·.held.length)).sum := by
    have := h.held
    simp only [List.map_append, List.map_cons, List.sum_append, List.sum_cons] at this ⊢
    omega
  have hmem : ∀ x ∈ a ++ e' :: b, x = e' ∨ x ∈ a ++ b := by
    intro x hx; simp only [List.mem_append, List.mem_cons] at hx ⊢; tauto
  rcases hl with ⟨rfl, hc⟩ | ⟨r', rfl, hr', hw'⟩
  · refine ⟨hrest, ?_, fun x hx => ?_, hheld⟩
    · have hd := h.distinct
      rw [List.filterMap_cons_some hr, List.nodup_cons] at hd
      exact hd.2
    · rcases hmem x hx with rfl | hx
      · exact ⟨hs, fun hw => by rw [hc] at hw; cases hw⟩
      · exact hkeep x hx
  · refine ⟨fun r'' hm => ?_, ?_, fun x hx => ?_, hheld⟩
    · rcases List.mem_cons.mp hm with rfl | hm
      · refine ⟨hr', fun t hre => ⟨e', by simp, ?_, hw'⟩⟩
        rw [hw'.record_entry] at hre
        exact Option.some.inj hre
      · exact hrest r'' hm
    · have hd := h.distinct
      rw [List.filterMap_cons_some hr] at hd
      rwa [List.filterMap_cons_some hw'.record_entry, ht]
    · rcases hmem x hx with rfl | hx
      · exact ⟨hs, fun _ => ⟨r', by simp, hw'.record_entry⟩⟩
      · obtain ⟨hxs, hxw⟩ := hkeep x hx
        refine ⟨hxs, fun hw => ?_⟩
        obtain ⟨r'', hr'', hre⟩ := hxw hw
        exact ⟨r'', List.mem_cons_of_mem r' hr'', hre⟩

/-! ### A unit taken by the oldest record -/

theorem Port.advanceList_cons {po : Port} {r : ListRecord} {rs : List ListRecord} (h : po.list = r :: rs) (m : RecordMode) :
    po.advanceList m
      = if r.taken + 1 < r.expected then { po with list := { r with taken := r.taken + 1, mode := m } :: rs }
        else { po with list := rs }.modEntry r.entry (fun e => { e with data := .complete }) := by
  unfold Port.advanceList
  rw [h]

/-- A change of the one entry with a tag. -/
theorem map_at_tag {a b : List Entry} {e : Entry} (hn : ((a ++ e :: b).map (·.tag)).Nodup) (f : Entry → Entry) :
    (a ++ e :: b).map (fun x => if some e.tag = some x.tag then f x else x) = a ++ f e :: b := by
  have hne : ∀ l : List Entry, e.tag ∉ l.map (·.tag) → l.map (fun x => if some e.tag = some x.tag then f x else x) = l := by
    intro l hl
    conv_rhs => rw [← List.map_id l]
    exact List.map_congr_left fun x hx => if_neg fun hx' => hl (List.mem_map.mpr ⟨x, hx, (Option.some.inj hx').symm⟩)
  rw [List.map_append, List.map_cons, List.nodup_append] at hn
  obtain ⟨-, hb, hab⟩ := hn
  rw [List.map_append, List.map_cons, if_pos rfl, hne a (fun ha => hab _ ha _ List.mem_cons_self rfl),
    hne b (List.nodup_cons.mp hb).1]

/-- The oldest record of a port takes a unit for its entry, which `f` changes (R115, R117). -/
theorem DataSound.takeUnit {po : Port} {r : ListRecord} {rs : List ListRecord} {a b : List Entry} {e : Entry}
    {f : Entry → Entry} {m : RecordMode} {n n' : Nat} (h : DataSound po.queue po.list n)
    (hn : (po.queue.map (·.tag)).Nodup) (hl : po.list = r :: rs) (hq : po.queue = a ++ e :: b) (hr : r.entry = some e.tag)
    (ht : (f e).tag = e.tag)
    (hgo : r.taken + 1 < r.expected →
      (f e).dataSound ∧ (f e).waitsFor { r with taken := r.taken + 1, mode := m })
    (hend : r.expected ≤ r.taken + 1 → { f e with data := .complete }.dataSound)
    (hu : n' + e.held.length = n + (f e).held.length) :
    DataSound ((po.modEntry r.entry f).advanceList m).queue ((po.modEntry r.entry f).advanceList m).list n' := by
  have hpl : (po.modEntry r.entry f).list = r :: rs := hl
  have hrange : r.inRange := (h.records r (by simp [hl])).1
  rw [hq, hl] at h
  rw [hq] at hn
  have hq' : (po.modEntry r.entry f).queue = a ++ f e :: b := by rw [Port.modEntry_queue, hq, hr, map_at_tag hn]
  have hn' : ((a ++ f e :: b).map (·.tag)).Nodup := by simpa [ht] using hn
  rw [Port.advanceList_cons hpl]
  split
  · next hlt =>
    obtain ⟨hs, hw⟩ := hgo hlt
    rw [hq']
    exact h.advance hn hr ht hs (.inr ⟨_, rfl, ⟨hlt, hrange.expected_le, fun _ => by simp [hr]⟩, hw⟩) hu
  · next hlt =>
    rw [Port.modEntry_queue]
    simp only [hq']
    rw [hr, ← ht, map_at_tag hn']
    exact h.advance hn hr ht (hend (Nat.le_of_not_lt hlt)) (.inl ⟨rfl, rfl⟩) hu

/-- The oldest record of a port, a discard record, takes a unit (R112, R115). -/
theorem DataSound.takeUnit_discard {po : Port} {r : ListRecord} {rs : List ListRecord} {n : Nat}
    (h : DataSound po.queue po.list n) (hl : po.list = r :: rs) (hr : r.entry = none) :
    DataSound (po.advanceList .sink).queue (po.advanceList .sink).list n := by
  have hrange : r.inRange := (h.records r (by simp [hl])).1
  rw [hl] at h
  rw [Port.advanceList_cons hl]
  split
  · next hlt => exact h.advance_discard hr (.inr ⟨_, rfl, ⟨hlt, hrange.expected_le, fun hm => by cases hm⟩, hr⟩)
  · have := h.advance_discard hr (.inl rfl)
    simpa [hr] using this

/-! ### What a tick or a mark changes in an entry -/

/-- An entry without its age and marks, which write data does not concern. -/
def Entry.writeSide (e : Entry) : Entry := { e with age := 0, urgent := false, markDue := false }

theorem Entry.dataSound_writeSide (e : Entry) : e.writeSide.dataSound ↔ e.dataSound := Iff.rfl
theorem Entry.waitsFor_writeSide (e : Entry) (r : ListRecord) : e.writeSide.waitsFor r ↔ e.waitsFor r := Iff.rfl

theorem dataSound_map_writeSide {q : List Entry} {l : List ListRecord} {n : Nat} :
    DataSound (q.map Entry.writeSide) l n ↔ DataSound q l n := by
  have hr : ∀ (r : ListRecord) (t : Tag),
      (∃ e ∈ q.map Entry.writeSide, e.tag = t ∧ e.waitsFor r) ↔ ∃ e ∈ q, e.tag = t ∧ e.waitsFor r := by
    intro r t
    simp only [List.mem_map, exists_exists_and_eq_and, Entry.waitsFor_writeSide]
    rfl
  have he : (∀ e ∈ q.map Entry.writeSide, e.dataSound ∧ (e.data = .waitingData → ∃ r ∈ l, r.entry = some e.tag))
      ↔ ∀ e ∈ q, e.dataSound ∧ (e.data = .waitingData → ∃ r ∈ l, r.entry = some e.tag) := by
    simp only [List.forall_mem_map, Entry.dataSound_writeSide]
    rfl
  have hh : ((q.map Entry.writeSide).map (·.held.length)).sum = (q.map (·.held.length)).sum := by
    rw [List.map_map]; rfl
  constructor
  · rintro ⟨h1, h2, h3, h4⟩
    exact ⟨fun r hm => ⟨(h1 r hm).1, fun t ht => (hr r t).mp ((h1 r hm).2 t ht)⟩, h2, he.mp h3, h4.trans hh⟩
  · rintro ⟨h1, h2, h3, h4⟩
    exact ⟨fun r hm => ⟨(h1 r hm).1, fun t ht => (hr r t).mpr ((h1 r hm).2 t ht)⟩, h2, he.mpr h3, h4.trans hh.symm⟩


/-! ### The write data of every port -/

theorem WriteDataSound.of_port {s t : State} (h : WriteDataSound s) (p : PortId)
    (hp : DataSound (t.ports.row p).queue (t.ports.row p).list (t.buffer.row p).total)
    (hq : ∀ q, q ≠ p → t.ports.row q = s.ports.row q) (hb : ∀ q, q ≠ p → t.buffer.row q = s.buffer.row q) :
    WriteDataSound t := by
  rw [writeDataSound_iff] at h ⊢
  intro q
  by_cases e : q = p
  · rwa [e]
  · rw [hq q e, hb q e]
    exact h q

/-- Ports with the same lists and entries whose write data is the same, and the same buffer counts. -/
theorem WriteDataSound.of_same {s t : State} (h : WriteDataSound s)
    (hq : ∀ p, (t.ports.row p).queue.map Entry.writeSide = (s.ports.row p).queue.map Entry.writeSide)
    (hl : ∀ p, (t.ports.row p).list = (s.ports.row p).list) (hb : t.buffer = s.buffer) : WriteDataSound t := by
  rw [writeDataSound_iff] at h ⊢
  intro p
  rw [← dataSound_map_writeSide, hq, hl, hb, dataSound_map_writeSide]
  exact h p

theorem WriteDataSound.of_tables {s t : State} (h : WriteDataSound s) (hp : t.ports = s.ports) (hb : t.buffer = s.buffer) :
    WriteDataSound t := h.of_same (fun _ => by rw [hp]) (fun _ => by rw [hp]) hb

/-- A change of one port that keeps its list and its entries' write data. -/
theorem WriteDataSound.modPort {s : State} (h : WriteDataSound s) {p : PortId} {f : Port → Port}
    (hq : (f (s.ports.row p)).queue.map Entry.writeSide = (s.ports.row p).queue.map Entry.writeSide)
    (hl : (f (s.ports.row p)).list = (s.ports.row p).list) : WriteDataSound (s.modPort p f) := by
  refine h.of_same (fun q => ?_) (fun q => ?_) rfl
  · by_cases e : q = p
    · subst e; simpa using hq
    · simp [e]
  · by_cases e : q = p
    · subst e; simpa using hl
    · simp [e]

/-! #### The requests a port takes -/

theorem expectsData_iff {m : RequestMsg} : expectsData m = true ↔ m.kind = .write ∧ m.len.val ≠ 0 := by
  simp [expectsData]

/-- The record of a request, in range and nothing taken yet (R114). -/
theorem newRecord_inRange {m : RequestMsg} (h : expectsData m = true) {mode : RecordMode} {entry : Option Tag}
    (he : mode = .store → entry ≠ none) :
    ListRecord.inRange { mode := mode, expected := m.len.val, taken := 0, entry := entry } := by
  have := (expectsData_iff.mp h).2
  exact ⟨by dsimp only; omega, by dsimp only; omega, he⟩

theorem newEntry_dataSound {am am' : AdmissionMode} {t : Tab 16 RegionEntry} {cfg : PortConfig} {p : PortId} {m : RequestMsg}
    {sn : Snapshot} (hsn : sn = classify am t cfg p m) : (newEntry am' m sn).dataSound := by
  obtain ⟨hfence, hissue⟩ := classify_disposition am t cfg p m
  rw [← hsn] at hfence hissue
  refine ⟨fun hw => ?_, fun hi => ?_, fun hi hk hc => ?_, fun _ => rfl⟩
  · have hx : expectsData m = true := by
      by_contra hx
      simp [newEntry, hx] at hw
    have hk := (expectsData_iff.mp hx).1
    refine ⟨hk, fun hf => ?_⟩
    rw [hfence hf] at hk
    cases hk
  · obtain ⟨h1, h2, h3⟩ := hissue hi
    simpa [newEntry, Entry.units, h3] using ⟨h1, h2⟩
  · obtain ⟨h1, -, -⟩ := hissue hi
    have hx : expectsData m = true := expectsData_iff.mpr ⟨hk, by omega⟩
    simp [newEntry, hx] at hc

theorem newEntry_waitsFor {am : AdmissionMode} {m : RequestMsg} (sn : Snapshot) (h : expectsData m = true) :
    (newEntry am m sn).waitsFor
      { mode := if sn.disposition = .issue then .store else .sink, expected := m.len.val, taken := 0,
        entry := some m.tag } := by
  have hk := (expectsData_iff.mp h).1
  refine ⟨rfl, hk, by simp [newEntry, h], by simp [newEntry, Entry.units, hk], fun hm => ?_, fun hm => ?_⟩
  · by_cases hi : sn.disposition = .issue
    · exact ⟨hi, rfl⟩
    · simp [hi] at hm
  · intro hi
    have : sn.disposition = .issue := hi
    simp [this] at hm

/-- A classified request joins the queue, with its record when it is a write that expects data (R110, R114). -/
theorem DataSound.accept {q : List Entry} {l : List ListRecord} {n : Nat} (h : DataSound q l n) {am am' : AdmissionMode}
    {t : Tab 16 RegionEntry} {cfg : PortConfig} {p : PortId} {m : RequestMsg} {sn : Snapshot}
    (hsn : sn = classify am t cfg p m) (hfree : m.tag ∉ q.map (·.tag)) :
    DataSound (q ++ [newEntry am' m sn])
      (l ++ newRecord m (if sn.disposition = .issue then .store else .sink) (some m.tag)) n := by
  unfold newRecord
  split
  · next hx =>
    exact h.enqueueWrite (newEntry_dataSound hsn) rfl (newRecord_inRange hx (by simp)) (newEntry_waitsFor sn hx) hfree
  · next hx =>
    rw [List.append_nil]
    exact h.enqueue (newEntry_dataSound hsn) (by simp [newEntry, hx]) rfl


/-! #### Heads that leave -/

/-- A head that retires has its data (R44, Table 3-1). -/
theorem State.retireStatus_complete {s : State} {p : PortId} {st : DoneStatus} {e : Entry} {rest : List Entry}
    (h : s.retireStatus p = some st) (hq : (s.ports.row p).queue = e :: rest) (hs : e.dataSound) : e.data = .complete := by
  cases hd : e.data with
  | complete => rfl
  | waitingData =>
    have hnf := (hs.write_of_waiting hd).2
    simp only [State.retireStatus, State.port_eq, hq, hd] at h
    cases hdisp : e.disposition with
    | fence => exact absurd hdisp hnf
    | refused => simp [hdisp] at h
    | dataerr => simp [hdisp] at h
    | issue => simp [hdisp] at h

/-- The port granted has an eligible head (R56, R57). -/
theorem State.winner_eligible {s : State} {t : Tier} {p : PortId} (h : s.winner = some (t, p)) :
    s.eligibleTier p = some t := by
  obtain ⟨t', -, ht'⟩ := List.exists_of_findSome?_eq_some h
  obtain ⟨p', hp', he⟩ := Option.map_eq_some_iff.mp ht'
  cases he
  simpa using List.find?_some hp'

/-- An eligible head is to be issued and has its data (R49, R52). -/
theorem State.eligibleTier_head {s : State} {t : Tier} {p : PortId} {e : Entry} {rest : List Entry}
    (h : s.eligibleTier p = some t) (hq : (s.ports.row p).queue = e :: rest) : e.disposition = .issue ∧ e.dataOk = true := by
  simp only [State.eligibleTier, State.port_eq, hq] at h
  split at h
  · next hc =>
    simp only [Bool.and_eq_true, beq_iff_eq] at hc
    obtain ⟨⟨⟨⟨hi, -⟩, -⟩, hd⟩, -⟩ := hc
    exact ⟨hi, hd⟩
  · cases h

theorem dirOf_eq_write {k : ReqKind} : dirOf k = .write ↔ k = .write := by cases k <;> simp [dirOf]

theorem Entry.complete_of_dataOk {e : Entry} (h : e.dataOk = true) (hs : e.dataSound) : e.data = .complete := by
  cases hd : e.data with
  | complete => rfl
  | waitingData =>
    have hk := (hs.write_of_waiting hd).1
    simp [Entry.dataOk, hk, hd, dirOf] at h

/-! #### The buffer units of a port -/

@[simp] theorem BufCounts.total_give (b : BufCounts) : b.give.total = b.total + 1 := by
  unfold BufCounts.give
  split <;> simp only [BufCounts.total] <;> omega

@[simp] theorem BufCounts.total_release (b : BufCounts) (n : Nat) : (b.release n).total = b.total - n := by
  simp only [BufCounts.total, BufCounts.release]
  omega

/-! #### The units a port takes -/

/-- The entry with the oldest record's tag is the one that waits for it. -/
theorem DataSound.oldest_entry {q : List Entry} {r : ListRecord} {rs : List ListRecord} {n : Nat} {e : Entry}
    (h : DataSound q (r :: rs) n) (hn : (q.map (·.tag)).Nodup) (he : e ∈ q) (hr : r.entry = some e.tag) :
    e.dataSound ∧ e.waitsFor r ∧ ∃ a b, q = a ++ e :: b := by
  obtain ⟨x, hx, hxt, hw⟩ := (h.records r List.mem_cons_self).2 e.tag hr
  obtain rfl := List.inj_on_of_nodup_map hn hx he hxt
  exact ⟨(h.entries x hx).1, hw, List.append_of_mem he⟩

/-- An entry whose last unit has come: what it holds is complete when it is to be issued, and nothing otherwise. -/
theorem Entry.dataSound_complete {e : Entry} {held : List BufUnit} {d : Disposition} (hs : e.dataSound)
    (hk : e.kind = .write) (hi : d = .issue → e.disposition = .issue ∧ held.length = e.units)
    (hn : d ≠ .issue → held = []) : Entry.dataSound { e with data := .complete, held := held, disposition := d } := by
  refine ⟨fun h => (by cases h), fun h => hs.units_of_issue (hi h).1, fun h _ _ => (hi h).2, fun h => ?_⟩
  rcases h with h | h
  · exact hn h
  · exact absurd hk h

/-- A unit sunk by the oldest record (R115). -/
theorem DataSound.sink {po : Port} {r : ListRecord} {rs : List ListRecord} {n : Nat} (h : DataSound po.queue po.list n)
    (hn : (po.queue.map (·.tag)).Nodup) (hl : po.list = r :: rs)
    (hm : r.mode = .sink ∨ po.queue.find? (fun e => decide (r.entry = some e.tag)) = none) :
    DataSound (po.advanceList .sink).queue (po.advanceList .sink).list n := by
  cases hr : r.entry with
  | none => exact h.takeUnit_discard hl hr
  | some t =>
    have h' := h
    rw [hl] at h'
    obtain ⟨e, he, rfl, -⟩ := (h'.records r List.mem_cons_self).2 t hr
    obtain ⟨hs, ⟨-, hk, hd, hu, hstore, hsink⟩, a, b, hq⟩ := h'.oldest_entry hn he hr
    have hmode : r.mode = .sink := hm.resolve_right fun hf => by
      simpa [hr] using List.find?_eq_none.mp hf e he
    have hid : po.modEntry r.entry id = po := by simp [Port.modEntry]
    have hne := hsink hmode
    have := h.takeUnit (f := id) (m := .sink) (n' := n) hn hl hq hr rfl
      (fun _ => ⟨hs, hr, hk, hd, hu, fun hm => (by cases hm), fun _ => hne⟩)
      (fun _ => Entry.dataSound_complete hs hk (fun hi => absurd hi hne) (fun _ => hs.held_nil hne)) rfl
    rwa [hid] at this

/-- A unit stored by the oldest record: its entry holds one more (R115, R119). -/
theorem DataSound.store {po : Port} {r : ListRecord} {rs : List ListRecord} {n : Nat} (x : BufUnit)
    (h : DataSound po.queue po.list n) (hn : (po.queue.map (·.tag)).Nodup) (hl : po.list = r :: rs) (hm : r.mode = .store) :
    DataSound ((po.modEntry r.entry (fun e => { e with held := e.held ++ [x] })).advanceList .store).queue
      ((po.modEntry r.entry (fun e => { e with held := e.held ++ [x] })).advanceList .store).list (n + 1) := by
  have h' := h
  rw [hl] at h'
  obtain ⟨⟨hlt, -, hent⟩, hrec⟩ := h'.records r List.mem_cons_self
  obtain ⟨t, hr⟩ := Option.ne_none_iff_exists'.mp (hent hm)
  obtain ⟨e, he, rfl, -⟩ := hrec t hr
  obtain ⟨hs, ⟨-, hk, hd, hu, hstore, -⟩, a, b, hq⟩ := h'.oldest_entry hn he hr
  obtain ⟨hi, hheld⟩ := hstore hm
  refine h.takeUnit hn hl hq hr rfl (fun hgo => ⟨?_, hr, hk, hd, hu, fun _ => ⟨hi, by simp [hheld]⟩, fun hm => by cases hm⟩)
    (fun hend => Entry.dataSound_complete (e := e) hs hk (fun _ => ⟨hi, ?_⟩) (fun hne => absurd hi hne)) (by simp; omega)
  · exact ⟨hs.write_of_waiting, hs.units_of_issue, fun _ _ hc => (by rw [hd] at hc; cases hc),
      fun hne => hne.elim (absurd hi) (absurd hk)⟩
  · rw [List.length_append, List.length_singleton, hheld, hu]
    omega

/-- A bad unit for the oldest record: its write is no longer to be issued, and its units go (R117). -/
theorem DataSound.dataerr {po : Port} {r : ListRecord} {rs : List ListRecord} {n : Nat} {e : Entry}
    (h : DataSound po.queue po.list n) (hn : (po.queue.map (·.tag)).Nodup) (hl : po.list = r :: rs) (he : e ∈ po.queue)
    (hr : r.entry = some e.tag) :
    DataSound ((po.modEntry r.entry (fun e => { e with disposition := .dataerr, held := [] })).advanceList .sink).queue
      ((po.modEntry r.entry (fun e => { e with disposition := .dataerr, held := [] })).advanceList .sink).list
      (n - e.held.length) := by
  have h' := h
  rw [hl] at h'
  obtain ⟨hs, ⟨-, hk, hd, hu, -, -⟩, a, b, hq⟩ := h'.oldest_entry hn he hr
  have hle : e.held.length ≤ n := by
    rw [h.held]
    exact List.single_le_sum (by simp) _ (List.mem_map.mpr ⟨e, he, rfl⟩)
  refine h.takeUnit hn hl hq hr rfl
    (fun _ => ⟨?_, hr, hk, hd, hu, fun hm => (by cases hm), fun _ => Disposition.noConfusion⟩)
    (fun _ => Entry.dataSound_complete (e := e) hs hk (fun hi => (by cases hi)) (fun _ => rfl)) (by simp; omega)
  exact ⟨fun _ => ⟨hk, Disposition.noConfusion⟩, fun hi => (by cases hi), fun hi => (by cases hi), fun _ => rfl⟩

/-! ### Every move -/

theorem WriteDataSound.accept {s : State} (h : WriteDataSound s) (ht : TagsSound s) {p : PortId} {m : RequestMsg}
    (hd : (s.ports.row p).tags.row m.tag = false) : WriteDataSound (s.accept p m) := by
  have hfree : m.tag ∉ (s.ports.row p).queue.map (·.tag) := fun hm => by
    have := ((tagsSound_iff.mp ht p).mem_iff m.tag).mpr (.inl hm)
    rw [hd] at this
    cases this
  refine h.of_port p ?_ (fun q hq => by simp [hq]) (fun q _ => by simp)
  simpa using (writeDataSound_iff.mp h p).accept (am' := s.mode.admission) (sn := s.snapshotOf p m) rfl hfree

theorem WriteDataSound.duplicate {s : State} (h : WriteDataSound s) (p : PortId) (m : RequestMsg) :
    WriteDataSound (s.rejectDuplicate p m) := by
  refine h.of_port p ?_ (fun q hq => by simp [hq]) (fun q _ => by simp)
  have hp := writeDataSound_iff.mp h p
  have hl : DataSound (s.ports.row p).queue ((s.ports.row p).list ++ newRecord m .sink none) (s.buffer.row p).total := by
    unfold newRecord
    split
    · next hx => exact hp.discard (newRecord_inRange hx (fun hm => by cases hm)) rfl
    · rwa [List.append_nil]
  simpa using hl

theorem TagsSound.nodup {s : State} (h : TagsSound s) (p : PortId) : ((s.ports.row p).queue.map (·.tag)).Nodup :=
  (tagsSound_iff.mp h p).nodup

theorem WriteDataSound.dropPort {s : State} (h : WriteDataSound s) (p : PortId) (w : Bool) :
    WriteDataSound (s.dropPort p w) := by
  refine h.of_port p ?_ (fun q hq => by simp [State.dropPort, hq]) (fun q hq => by simp [State.dropPort, hq])
  simpa [State.dropPort, Port.portReset, BufCounts.total, BufCounts.release] using DataSound.empty

theorem WriteDataSound.popHead {s : State} (h : WriteDataSound s) (ht : TagsSound s) {p : PortId} {st : DoneStatus}
    {e : Entry} {rest : List Entry} (hq : (s.ports.row p).queue = e :: rest) (hs : s.retireStatus p = some st) :
    WriteDataSound (s.popHead p st e rest) := by
  refine h.of_port p ?_ (fun q hq => by simp [State.popHead, hq]) (fun q hq => by simp [State.popHead, hq])
  have hp := writeDataSound_iff.mp h p
  have hn := ht.nodup p
  rw [hq] at hp hn
  have hc := State.retireStatus_complete hs hq (hp.entries e List.mem_cons_self).1
  simpa [State.popHead] using hp.dequeue hc hn

theorem WriteDataSound.grantMove {s : State} (h : WriteDataSound s) (ht : TagsSound s) {t : Tier} {p : PortId} {e : Entry}
    {rest : List Entry} {i : SlotId} (hw : s.winner = some (t, p)) (hq : (s.ports.row p).queue = e :: rest) :
    WriteDataSound (s.grantMove t p e rest i) := by
  refine h.of_port p ?_ (fun q hq => by simp [hq]) (fun q hq => by simp [hq])
  have hp := writeDataSound_iff.mp h p
  have hn := ht.nodup p
  rw [hq] at hp hn
  have hc := Entry.complete_of_dataOk (State.eligibleTier_head (State.winner_eligible hw) hq).2
    (hp.entries e List.mem_cons_self).1
  simpa using hp.dequeue hc hn


/-- A change of one port and its buffer counts. -/
theorem WriteDataSound.setBuf_modPort {s u : State} (h : WriteDataSound s) {p : PortId} {b : BufCounts} {f : Port → Port}
    (hu : u.ports = s.ports.modRow p f) (hb : u.buffer = s.buffer.setRow p b)
    (hp : DataSound (f (s.ports.row p)).queue (f (s.ports.row p)).list b.total) : WriteDataSound u := by
  refine h.of_port p ?_ (fun q hq => by simp [hu, hq]) (fun q hq => by simp [hb, hq])
  simpa [hu, hb] using hp

/-- What a tick does to a queue touches no write data (R34). -/
theorem State.tickQueue_writeSide (s : State) (q : List Entry) :
    (s.tickQueue q).map Entry.writeSide = q.map Entry.writeSide := by
  cases q with
  | nil => rfl
  | cons e rest => simp [State.tickQueue, Entry.older, Entry.writeSide, Function.comp_def]

/-- Every move keeps the write data sound, where the tag sets are (R114, R115, R118). -/
theorem Move.keeps_writeDataSound {s t : State} (m : Move s t) (ht : TagsSound s) (h : WriteDataSound s) :
    WriteDataSound t := by
  cases m with
  | fullReset w =>
    rw [writeDataSound_iff]
    intro p
    rw [State.fullReset_port]
    simpa [State.fullReset, State.held, BufCounts.total, Port.fullReset, Port.reset] using DataSound.empty
  | dropPort p w => exact h.dropPort p w
  | duplicate p m rest => exact (h.modPort (f := fun po => { po with reqOffers := rest }) rfl rfl).duplicate p m
  | accept p m rest _ _ hd =>
    exact (h.modPort (f := fun po => { po with reqOffers := rest }) rfl rfl).accept
      (ht.modPort (f := fun po => { po with reqOffers := rest }) rfl rfl) (by simpa using hd)
  | releaseLine | offerRequest | offerUnit | forward | writePort => exact h.modPort rfl rfl
  | stray p => exact WriteDataSound.modPort (s := s.raise _ _) h rfl rfl
  | sink p u us r rs _ hl hm =>
    exact h.setBuf_modPort (b := s.buffer.row p) (s.sinkUnit_ports p) (Tab.setRow_row _ _).symm
      ((writeDataSound_iff.mp h p).sink (po := (s.ports.row p).popData) (ht.nodup p) hl hm)
  | store p u us r rs hc =>
    refine h.setBuf_modPort (s.storeUnit_ports p r u) rfl ?_
    rw [BufCounts.total_give]
    exact (writeDataSound_iff.mp h p).store (po := (s.ports.row p).popData) _ (ht.nodup p) hc.records hc.store
  | dataerr p u us r rs e _ hl _ he =>
    refine h.setBuf_modPort (s.markDataerr_ports p r e) rfl ?_
    rw [BufCounts.total_release]
    exact (writeDataSound_iff.mp h p).dataerr (po := (s.ports.row p).popData) (ht.nodup p) hl (List.mem_of_find?_eq_some he)
      (by simpa using List.find?_some he)
  | pop p st e rest hq hs => exact h.popHead ht hq hs
  | mark p => exact h.modPort (by split <;> simp [*, Entry.writeSide]) (by split <;> rfl)
  | timeout i => exact WriteDataSound.of_tables (s := s.answerSlot _ _) (h.modPort (by simp) (by simp)) rfl rfl
  | linkFail i =>
    have hf := State.freeAllSlots_same { s with link := { state := .failed, epoch := s.link.epoch + 1, advertised := 0 } }
    exact h.of_same (fun p => by simp [State.linkFail, hf.queue]) (fun p => by simp [State.linkFail, hf.list])
      (by simp [State.linkFail, hf.buffer])
  | resetLink =>
    have hf := s.freeAllSlots_same
    exact h.of_same (fun p => by simp [State.resetLink, hf.queue]) (fun p => by simp [State.resetLink, hf.list])
      (by simp [State.resetLink, hf.buffer])
  | tick =>
    exact h.of_same (fun p => by simp [State.tickWork, State.tickQueue_writeSide]) (fun p => by simp [State.tickWork]) rfl
  | grant t p e rest i hw _ hq => exact h.grantMove ht hw hq
  | answer i st => exact WriteDataSound.of_tables (s := s.answerSlot _ _) (h.modPort (by simp) (by simp)) rfl rfl
  | clearGroup g =>
    cases g with
    | port p => exact h.modPort rfl rfl
    | account a => exact h
    | global => exact h
  | releaseRst | orphan | quiesce | count | raise | countStale | countLate | goOnline | progress | free | setMgmt | setRegion
  | writeAccount | writeTiming | setMode | setDraining | clearRecord | setMask | ack => exact h

end Sys2Proof.Machine
end

section
/-! SUPPORT. Every move keeps the settings, queues, lists, buffer counts and regions in range, and every ISSUE sent sound
(R2, R28, R34, R42, R79, R88, R114, R118, R123). -/

namespace Sys2Proof.Machine

/-! ### Timing and regions -/

theorem parseTiming_inRange {pl : Tab 7 Byte} {t : TimingWrite} (h : parseTiming pl = some t) :
    16 ≤ t.period ∧ t.period ≤ 65536 ∧ t.responseTimeout ≤ 4095 ∧ 1 ≤ t.orphanLimit ∧ t.orphanLimit ≤ 4095 := by
  simp only [parseTiming] at h
  split at h
  · cases h
  · next hc =>
    obtain rfl := Option.some.inj h
    dsimp only at hc ⊢
    omega

theorem parseRegion_aligned {pl : Tab 14 Byte} {e : RegionEntry} (h : parseRegion pl = some e) :
    e.base.toNat % e.bytes = 0 := by
  unfold parseRegion at h
  split at h
  · next c r sel _ _ _ =>
    dsimp only at h
    split at h
    · next hb =>
      obtain rfl := Option.some.inj h
      exact hb
    · cases h
  · cases h

theorem parsePort_inRange {pl : Tab 6 Byte} {c : PortConfig} (h : parsePort pl = some c) :
    1 ≤ c.readLimit ∧ c.readLimit ≤ 16 ∧ 1 ≤ c.writeLimit ∧ c.writeLimit ≤ 16 := by
  unfold parsePort at h
  split at h
  · dsimp only at h
    split at h
    · cases h
    · next hc =>
      obtain rfl := Option.some.inj h
      dsimp only at hc ⊢
      omega
  · cases h

theorem TimingInRange.of_same {s t : State} (h : TimingInRange s) (hk : t.ticks = s.ticks) (ht : t.timing = s.timing) :
    TimingInRange t := by
  unfold TimingInRange
  rw [hk, ht]
  exact h

theorem RegionsAligned.of_same {s t : State} (h : RegionsAligned s) (hr : t.regions = s.regions) : RegionsAligned t := by
  unfold RegionsAligned
  rw [hr]
  exact h

/-- What accepting a request leaves as it was. -/
theorem State.accept_sameButDue (s : State) (p : PortId) (m : RequestMsg) : s.SameButDue (s.accept p m) := by
  have hr : s.SameButDue (s.raiseRefusal p m (s.snapshotOf p m)) := by
    unfold State.raiseRefusal
    split
    · exact .refl s
    · exact s.raise_sameButDue _ _
  exact hr.trans (State.modPort_sameButDue _ p _ (by simp) (by simp))

/-- A move counts REFCLK within the period, replaces the timing with values in range, or leaves it (R28, R79, R161). -/
theorem Move.keeps_timingInRange {s t : State} (m : Move s t) (h : TimingInRange s) : TimingInRange t := by
  cases m with
  | fullReset w =>
    have hh : TimingInRange State.held := ⟨by decide, by decide, by decide, by decide, by decide, by decide⟩
    exact hh
  | tick =>
    obtain ⟨h1, h2, -, h4⟩ := h
    exact ⟨h1, h2, Nat.lt_of_lt_of_le (Nat.zero_lt_succ 15) h1, h4⟩
  | count k _ hk =>
    obtain ⟨h1, h2, -, h4⟩ := h
    exact ⟨h1, h2, hk, h4⟩
  | writeTiming w _ hw =>
    obtain ⟨pl, hpl⟩ := hw
    obtain ⟨h1, h2, h4⟩ := parseTiming_inRange hpl
    exact ⟨h1, h2, Nat.lt_of_lt_of_le (Nat.zero_lt_succ 15) h1, h4⟩
  | accept p m => exact h.of_same (State.accept_sameButDue _ p m).ticks (State.accept_sameButDue _ p m).timing
  | linkFail => exact h.of_same s.linkFail_sameButDue.ticks s.linkFail_sameButDue.timing
  | resetLink =>
    have hf := s.freeAllSlots_same
    exact h.of_same (by simp [State.resetLink, hf.ticks]) (by simp [State.resetLink, hf.timing])
  | grant t p e rest i => exact h.of_same (by simp) (by simp)
  | clearGroup g => cases g <;> exact h
  | _ => exact h

/-- A move writes a region whose base is aligned, or leaves the table (R2, R4). -/
theorem Move.keeps_regionsAligned {s t : State} (m : Move s t) (h : RegionsAligned s) : RegionsAligned t := by
  cases m with
  | fullReset w =>
    intro i
    simp [State.fullReset, State.held, RegionEntry.reset]
  | setRegion i e he =>
    obtain ⟨pl, hpl⟩ := he
    intro j
    by_cases hj : j = i
    · subst hj
      simpa using parseRegion_aligned hpl
    · simpa [hj] using h j
  | accept p m => exact h.of_same (State.accept_sameButDue _ p m).regions
  | linkFail => exact h.of_same s.linkFail_sameButDue.regions
  | resetLink => exact h.of_same (by simp [State.resetLink, s.freeAllSlots_same.regions])
  | grant t p e rest i => exact h.of_same (by simp)
  | clearGroup g => cases g <;> exact h
  | _ => exact h

/-! ### Buffer counts -/

/-- Shared units in use after the counts of one port are replaced. -/
theorem State.sharedInUse_setBuf (s : State) (p : PortId) (b : BufCounts) :
    (s.setBuf p b).sharedInUse + (s.buffer.row p).shared = s.sharedInUse + b.shared := by
  simp only [State.sharedInUse, allPorts, List.map_cons, List.map_nil, List.sum_cons, List.sum_nil, State.bufCounts_eq,
    State.setBuf_buffer, Tab.row_setRow]
  match p with
  | 0 => simp; omega
  | 1 => simp; omega
  | 2 => simp; omega
  | 3 => simp; omega

theorem BufferInRange.of_same {s t : State} (h : BufferInRange s) (hb : t.buffer = s.buffer) : BufferInRange t := by
  unfold BufferInRange State.sharedInUse State.bufCounts
  rw [hb]
  exact h

theorem BufferInRange.setBuf {s : State} (h : BufferInRange s) {p : PortId} {b : BufCounts} (hr : b.reserve ≤ 16)
    (hs : b.shared ≤ (s.buffer.row p).shared ∨ b.shared = (s.buffer.row p).shared + 1 ∧ s.sharedInUse < 64) :
    BufferInRange (s.setBuf p b) := by
  obtain ⟨hres, hshared⟩ := h
  refine ⟨fun q => ?_, ?_⟩
  · by_cases e : q = p
    · subst e; simpa using hr
    · simpa [e] using hres q
  · have := s.sharedInUse_setBuf p b
    omega

/-- A release gives back no more than is held (R120). -/
theorem BufferInRange.release {s : State} (h : BufferInRange s) (p : PortId) (n : Nat) :
    BufferInRange (s.setBuf p ((s.buffer.row p).release n)) :=
  h.setBuf (Nat.le_trans (Nat.sub_le _ _) (h.1 p)) (.inl (Nat.sub_le _ _))

/-- A unit is given only where there is room (R119). -/
theorem BufferInRange.give {s : State} (h : BufferInRange s) {p : PortId} (hr : s.bufferRoom p = true) :
    BufferInRange (s.setBuf p (s.buffer.row p).give) := by
  have hres := h.1 p
  simp only [State.bufferRoom, Bool.or_eq_true, decide_eq_true_eq, State.bufCounts_eq] at hr hres
  unfold BufCounts.give
  split
  · next hlt => exact h.setBuf hlt (.inl (Nat.le_refl _))
  · next hlt => exact h.setBuf hres (.inr ⟨rfl, hr.resolve_left hlt⟩)

/-- A move gives a unit where there is room, gives units back, or leaves the counts (R118 to R120). -/
theorem Move.keeps_bufferInRange {s t : State} (m : Move s t) (h : BufferInRange s) : BufferInRange t := by
  cases m with
  | fullReset w =>
    have hh : BufferInRange State.held := ⟨fun p => by simp [State.held], by decide⟩
    exact hh
  | dropPort p => exact BufferInRange.of_same (h.release p _) rfl
  | store p u us r rs hc => exact BufferInRange.of_same (h.give hc.room) rfl
  | dataerr p u us r rs e => exact BufferInRange.of_same (h.release p _) rfl
  | pop p st e => exact BufferInRange.of_same (h.release p _) rfl
  | grant t p e rest i => exact BufferInRange.of_same (h.release p e.held.length) (by simp)
  | accept p m => exact h.of_same (by simp [State.accept])
  | linkFail =>
    have hf := State.freeAllSlots_same { s with link := { state := .failed, epoch := s.link.epoch + 1, advertised := 0 } }
    exact h.of_same (by simp [State.linkFail, hf.buffer])
  | resetLink => exact h.of_same (by simp [State.resetLink, s.freeAllSlots_same.buffer])
  | clearGroup g => cases g <;> exact h
  | _ => exact h


/-! ### Queues, lists and limits of a port -/

/-- One port's part of `PortsInRange`. -/
structure Port.InRange (po : Port) : Prop where
  depth : po.queue.length ≤ 16
  records : po.list.length ≤ 16
  readLow : 1 ≤ po.config.readLimit
  readHigh : po.config.readLimit ≤ 16
  writeLow : 1 ≤ po.config.writeLimit
  writeHigh : po.config.writeLimit ≤ 16
  ages : ∀ e ∈ po.queue, e.age ≤ 4095

theorem portsInRange_iff {s : State} : PortsInRange s ↔ ∀ p, (s.ports.row p).InRange :=
  forall_congr' fun _ =>
    ⟨fun ⟨a, b, c, d, e, f, g⟩ => ⟨a, b, c, d, e, f, g⟩, fun ⟨a, b, c, d, e, f, g⟩ => ⟨a, b, c, d, e, f, g⟩⟩

/-- A port with the same limits, whose queue and list stay within 16 and whose ages stay within 4095. -/
theorem Port.InRange.change {po po' : Port} (h : po.InRange) (hc : po'.config = po.config) (hq : po'.queue.length ≤ 16)
    (hl : po'.list.length ≤ 16) (ha : ∀ e ∈ po'.queue, e.age ≤ 4095) : po'.InRange :=
  ⟨hq, hl, hc ▸ h.readLow, hc ▸ h.readHigh, hc ▸ h.writeLow, hc ▸ h.writeHigh, ha⟩

theorem Port.InRange.same {po po' : Port} (h : po.InRange) (hc : po'.config = po.config) (hq : po'.queue = po.queue)
    (hl : po'.list = po.list) : po'.InRange :=
  h.change hc (hq ▸ h.depth) (hl ▸ h.records) (hq ▸ h.ages)

/-- Entries changed one by one, none of them aged. -/
theorem Port.InRange.mapQueue {po : Port} (h : po.InRange) {f : Entry → Entry} (hf : ∀ e, (f e).age = e.age) :
    Port.InRange { po with queue := po.queue.map f } :=
  h.change rfl (by simpa using h.depth) h.records (fun e he => by
    obtain ⟨e', he', rfl⟩ := List.mem_map.mp he
    rw [hf]
    exact h.ages e' he')

theorem Port.InRange.modEntry {po : Port} (h : po.InRange) (t : Option Tag) {f : Entry → Entry}
    (hf : ∀ e, (f e).age = e.age) : (po.modEntry t f).InRange := h.mapQueue fun e => by split <;> simp [hf]

theorem Port.InRange.advanceList {po : Port} (h : po.InRange) (m : RecordMode) : (po.advanceList m).InRange := by
  cases hl : po.list with
  | nil =>
    unfold Port.advanceList
    rw [hl]
    exact h
  | cons r rs =>
    have hlen := h.records
    rw [hl, List.length_cons] at hlen
    rw [Port.advanceList_cons hl]
    split
    · exact h.change rfl h.depth (by simpa using hlen) h.ages
    · exact Port.InRange.modEntry (h.change (po' := { po with list := rs }) rfl h.depth (by dsimp only; omega) h.ages) _
        (fun _ => rfl)

theorem PortsInRange.modPort {s : State} (h : PortsInRange s) {p : PortId} {f : Port → Port}
    (hf : (s.ports.row p).InRange → (f (s.ports.row p)).InRange) : PortsInRange (s.modPort p f) := by
  rw [portsInRange_iff] at h ⊢
  intro q
  by_cases e : q = p
  · subst e; simpa using hf (h q)
  · simpa [e] using h q

theorem PortsInRange.of_rows {s t : State} (h : PortsInRange s)
    (hr : ∀ p, (s.ports.row p).InRange → (t.ports.row p).InRange) : PortsInRange t :=
  portsInRange_iff.mpr fun p => hr p (portsInRange_iff.mp h p)

theorem PortsInRange.of_tables {s t : State} (h : PortsInRange s) (hp : t.ports = s.ports) : PortsInRange t :=
  h.of_rows fun _ hr => by rwa [hp]

theorem PortsInRange.of_modRow {s t : State} (h : PortsInRange s) {p : PortId} {f : Port → Port}
    (ht : t.ports = s.ports.modRow p f) (hf : (s.ports.row p).InRange → (f (s.ports.row p)).InRange) : PortsInRange t :=
  (h.modPort hf).of_tables ht

/-- What a request adds to the list: at most one record, and none but for a write (R114). -/
theorem newRecord_length (m : RequestMsg) (mode : RecordMode) (entry : Option Tag) :
    (newRecord m mode entry).length ≤ if m.kind = .write then 1 else 0 := by
  unfold newRecord
  split
  · next hx => simp [(expectsData_iff.mp hx).1]
  · exact Nat.zero_le _

/-- A REQUEST is taken only where the queue has room, and the list for a write's record (R110). -/
theorem State.takesRequest_room {s : State} {p : PortId} {m : RequestMsg} (h : s.takesRequest p m = true) :
    (s.ports.row p).queue.length < 16
      ∧ ∀ mode entry, (s.ports.row p).list.length ≤ 16 →
          ((s.ports.row p).list ++ newRecord m mode entry).length ≤ 16 := by
  simp only [State.takesRequest, Bool.and_eq_true, Bool.or_eq_true, decide_eq_true_eq, bne_iff_ne, State.port_eq] at h
  obtain ⟨⟨-, hq⟩, hl⟩ := h
  refine ⟨hq, fun mode entry hle => ?_⟩
  have hn := newRecord_length m mode entry
  rw [List.length_append]
  split at hn
  · next hk =>
    have hlt : (s.ports.row p).list.length < 16 := hl.resolve_left (fun hne => hne hk)
    omega
  · omega

theorem Entry.older_age {e : Entry} (h : e.age ≤ 4095) : e.older.age ≤ 4095 := by
  simp only [Entry.older, Config.maxEntryAge]
  split <;> omega

/-- A tick keeps a queue's length and lets no age pass 4095 (R34). -/
theorem Port.InRange.tick {po : Port} (h : po.InRange) (s : State) :
    Port.InRange { po with queue := s.tickQueue po.queue } := by
  have ht : (s.tickQueue po.queue).map (·.age) = po.queue.map (fun e => e.older.age) := by
    cases po.queue with
    | nil => rfl
    | cons e rest => simp [State.tickQueue]
  refine h.change rfl ?_ h.records (fun e he => ?_)
  · have := congrArg List.length ht
    rw [List.length_map, List.length_map] at this
    exact this.symm ▸ h.depth
  · have hm : e.age ∈ po.queue.map (fun e => e.older.age) := ht ▸ List.mem_map.mpr ⟨e, he, rfl⟩
    obtain ⟨e', he', hage⟩ := List.mem_map.mp hm
    rw [← hage]
    exact Entry.older_age (h.ages e' he')

theorem Port.InRange.dequeue {po po' : Port} (h : po.InRange) {e : Entry} {rest : List Entry} (hq : po.queue = e :: rest)
    (hc : po'.config = po.config) (hq' : po'.queue = rest) (hl : po'.list = po.list) : po'.InRange := by
  have hd := h.depth
  have ha := h.ages
  rw [hq] at hd ha
  rw [List.length_cons] at hd
  exact h.change hc (by rw [hq']; omega) (hl ▸ h.records) (fun x hx => ha x (List.mem_cons_of_mem e (hq' ▸ hx)))

theorem Port.InRange.popData {po : Port} (h : po.InRange) : po.popData.InRange := h.same rfl rfl rfl

theorem PortsInRange.freeAllSlots {s : State} (h : PortsInRange s) : PortsInRange s.freeAllSlots :=
  have hf := s.freeAllSlots_same
  h.of_rows fun p hr => hr.same (hf.config p) (hf.queue p) (hf.list p)

/-- Every move keeps queues and lists within 16, limits in 1 to 16 and ages within 4095 (R34, R42, R114, R123). -/
theorem Move.keeps_portsInRange {s t : State} (m : Move s t) (h : PortsInRange s) : PortsInRange t := by
  cases m with
  | fullReset w =>
    rw [portsInRange_iff]
    intro p
    rw [State.fullReset_port]
    exact ⟨Nat.zero_le _, Nat.zero_le _, by simp [Port.fullReset, Port.reset, PortConfig.reset],
      by simp [Port.fullReset, Port.reset, PortConfig.reset], by simp [Port.fullReset, Port.reset, PortConfig.reset],
      by simp [Port.fullReset, Port.reset, PortConfig.reset], fun e he => by cases he⟩
  | dropPort p w =>
    exact h.of_modRow (s.dropPort_ports p w) fun hr =>
      hr.change rfl (Nat.zero_le _) (Nat.zero_le _) (fun e he => by cases he)
  | duplicate p m rest hq ht =>
    obtain ⟨-, hl⟩ := State.takesRequest_room ht
    have h1 := h.modPort (p := p) (f := fun po => { po with reqOffers := rest }) fun hr => hr.same rfl rfl rfl
    refine h1.of_modRow (State.rejectDuplicate_ports _ p m) fun hr => hr.change rfl hr.depth ?_ hr.ages
    simpa using hl _ _ (portsInRange_iff.mp h p).records
  | accept p m rest hq ht =>
    obtain ⟨hroom, hl⟩ := State.takesRequest_room ht
    have h1 := h.modPort (p := p) (f := fun po => { po with reqOffers := rest }) fun hr => hr.same rfl rfl rfl
    refine h1.of_modRow (State.accept_ports _ p m) fun hr => ?_
    refine hr.change rfl ?_ ?_ (fun e he => ?_)
    · simpa using hroom
    · simpa using hl _ _ (portsInRange_iff.mp h p).records
    · rw [Port.enqueue_queue, List.mem_append, List.mem_singleton] at he
      rcases he with he | rfl
      · exact hr.ages e he
      · exact Nat.zero_le _
  | releaseLine | offerRequest | offerUnit | forward => exact h.modPort fun hr => hr.same rfl rfl rfl
  | stray p => exact PortsInRange.modPort (s := s.raise _ _) h fun hr => hr.popData
  | sink p => exact h.modPort fun hr => hr.popData.advanceList _
  | store p =>
    refine h.of_modRow (s.storeUnit_ports p _ _) fun hr => Port.InRange.advanceList (hr.popData.modEntry _ ?_) _
    exact fun _ => rfl
  | dataerr p u us r rs e =>
    refine h.of_modRow (s.markDataerr_ports p r e) fun hr => Port.InRange.advanceList (hr.popData.modEntry _ ?_) _
    exact fun _ => rfl
  | pop p st e rest hq =>
    exact h.of_modRow (s.popHead_ports p st e rest) fun hr => hr.dequeue hq (by simp) (by simp) (by simp)
  | mark p =>
    refine h.modPort fun hr => ?_
    split
    · exact hr
    · next e rest hq =>
      have hd := hr.depth
      have ha := hr.ages
      rw [hq] at hd ha
      exact hr.change rfl hd hr.records (fun x hx => by
        rcases List.mem_cons.mp hx with rfl | hx
        · exact ha e List.mem_cons_self
        · exact ha x (List.mem_cons_of_mem e hx))
  | timeout i =>
    exact h.of_modRow (s.answerSlot_ports _ _) fun hr => hr.same (by simp) (by simp) (by simp)
  | linkFail =>
    have h1 := PortsInRange.freeAllSlots
      (s := { s with link := { state := .failed, epoch := s.link.epoch + 1, advertised := 0 } }) h
    exact h1.of_tables (by simp [State.linkFail])
  | resetLink => exact h.freeAllSlots.of_tables (by simp [State.resetLink])
  | tick => exact h.of_rows fun p hr => by simpa [State.tickWork] using hr.tick s
  | grant t p e rest i _ _ hq =>
    exact h.of_modRow (s.grantMove_ports t p e rest i) fun hr => hr.dequeue hq (by simp) (by simp) (by simp)
  | answer i st =>
    exact h.of_modRow (s.answerSlot_ports _ _) fun hr => hr.same (by simp) (by simp) (by simp)
  | writePort p c _ hc =>
    obtain ⟨pl, hpl⟩ := hc
    obtain ⟨h1, h2, h3, h4⟩ := parsePort_inRange hpl
    exact h.modPort fun hr => ⟨hr.depth, hr.records, h1, h2, h3, h4, hr.ages⟩
  | clearGroup g =>
    cases g with
    | port p => exact h.modPort fun hr => hr.same rfl rfl rfl
    | account a => exact h
    | global => exact h
  | _ => exact h

/-! ### ISSUEs sent (R88) -/

/-- The ISSUE of an eligible head carries the units that its length field says (R88, R167). -/
theorem State.issueFor_unitsMatch {s : State} {e : Entry} (i : SlotId) (hs : e.dataSound) (hi : e.disposition = .issue)
    (hd : e.dataOk = true) : (s.issueFor i e).unitsMatch := by
  obtain ⟨hlow, hhigh⟩ := hs.units_of_issue hi
  unfold State.issueFor
  cases hk : dirOf e.kind with
  | read => rfl
  | write =>
    have hheld := hs.held_of_complete hi (dirOf_eq_write.mp hk) (Entry.complete_of_dataOk hd hs)
    refine ⟨e.held, rfl, ?_⟩
    rw [hheld, issueLengthField, BitVec.toNat_ofNat]
    omega

theorem IssuesSound.of_same {s t : State} (h : IssuesSound s) (hm : t.mlDn = s.mlDn) : IssuesSound t := by
  unfold IssuesSound
  rw [hm]
  exact h

theorem IssuesSound.append {s t : State} (h : IssuesSound s) {m : DnMsg} (hm : t.mlDn = s.mlDn ++ [m]) (hu : m.unitsMatch) :
    IssuesSound t := by
  intro m' hm'
  rw [hm, List.mem_append, List.mem_singleton] at hm'
  rcases hm' with hm' | rfl
  · exact h m' hm'
  · exact hu

/-- Only a grant sends an ISSUE, and only of an eligible head (R88). -/
theorem Move.keeps_issuesSound {s t : State} (m : Move s t) (hw : WriteDataSound s) (h : IssuesSound s) : IssuesSound t := by
  cases m with
  | releaseRst => exact h.append (m := .restart 0) rfl trivial
  | resetLink =>
    exact h.append (m := .restart (s.freeAllSlots.link.epoch + 1))
      (by simp [State.resetLink, s.freeAllSlots_same.mlDn]) trivial
  | grant t p e rest i hwin _ hq =>
    obtain ⟨hi, hd⟩ := State.eligibleTier_head (State.winner_eligible hwin) hq
    have hs : e.dataSound := ((writeDataSound_iff.mp hw p).entries e (hq ▸ List.mem_cons_self)).1
    exact h.append (State.grantMove_mlDn s t p e rest i) (State.issueFor_unitsMatch i hs hi hd)
  | accept p m => exact h.of_same (State.accept_sameButDue _ p m).mlDn
  | linkFail => exact h.of_same s.linkFail_sameButDue.mlDn
  | clearGroup g => cases g <;> exact h
  | _ => exact h

/-! ### Every step -/

/-- Settles O54: each condition is kept by every move, and a step is a chain of moves. -/
theorem settingsQueuesAndWriteDataStaySound : Obligations.SettingsQueuesAndWriteDataStaySound := by
  intro s t hstep
  refine ⟨fun h1 h2 h3 h4 => ⟨?_, ?_, ?_, ?_⟩, fun htags hdata => ⟨?_, fun hissues => ?_⟩⟩
  · exact step_keeps (fun _ _ m => m.keeps_timingInRange) (fun _ _ h => h) h1 hstep
  · exact step_keeps (fun _ _ m => m.keeps_regionsAligned) (fun _ _ h => h) h2 hstep
  · exact step_keeps (fun _ _ m => m.keeps_portsInRange) (fun _ _ h => h) h3 hstep
  · exact step_keeps (fun _ _ m => m.keeps_bufferInRange) (fun _ _ h => h) h4 hstep
  · exact (step_keeps (P := fun u => TagsSound u ∧ WriteDataSound u)
      (fun _ _ m ⟨ht, hd⟩ => ⟨m.keeps_tagsSound ht, m.keeps_writeDataSound ht hd⟩) (fun _ _ h => h) ⟨htags, hdata⟩ hstep).2
  · exact (step_keeps (P := fun u => (TagsSound u ∧ WriteDataSound u) ∧ IssuesSound u)
      (fun _ _ m ⟨⟨ht, hd⟩, hi⟩ => ⟨⟨m.keeps_tagsSound ht, m.keeps_writeDataSound ht hd⟩, m.keeps_issuesSound hd hi⟩)
      (fun _ _ h => h) ⟨⟨htags, hdata⟩, hissues⟩ hstep).2

end Sys2Proof.Machine
end

section
/-! SUPPORT. Full reset (R64, R142), and a REQUEST taken by its port, at once or at the end of a later event (R7, R17,
R110). -/

namespace Sys2Proof.Machine

/-! ### Full reset -/

/-- Settles O6: each table holds its reset row, and each port is its reset value with pins, offers and sent messages kept. -/
theorem fullResetSetsResetValues : Obligations.FullResetSetsResetValues := by
  intro w s
  refine ⟨s.fullReset w, rfl, fun i => Tab.row_const _ i, fun a => Tab.row_const _ a, rfl, rfl,
    fun i => Tab.row_const _ i, rfl, rfl, fun p => Tab.row_const _ p, rfl, rfl, fun p => ?_, rfl, rfl, rfl, rfl⟩
  rw [State.port_eq, State.fullReset_port]
  rfl

/-! ### The oldest REQUEST offered is taken -/

@[simp] theorem State.modPort_modPort (s : State) (p : PortId) (f g : Port → Port) :
    (s.modPort p f).modPort p g = s.modPort p (fun po => g (f po)) := by
  have : (s.ports.modRow p f).modRow p g = s.ports.modRow p (fun po => g (f po)) := by
    apply Tab.ext_rows
    intro q
    by_cases e : q = p
    · subst e; simp
    · simp [e]
  simp only [State.modPort, this]

theorem State.modPort_congr {s : State} {p : PortId} {f g : Port → Port} (h : f (s.ports.row p) = g (s.ports.row p)) :
    s.modPort p f = s.modPort p g := by
  simp only [State.modPort, Tab.modRow, h]

/-- The state with the offers at a port replaced. -/
def State.withReqOffers (s : State) (p : PortId) (l : List RequestMsg) : State :=
  s.modPort p (fun po => { po with reqOffers := l })

/-- The offers have no part in whether a REQUEST is taken (R110). -/
theorem State.takesRequest_withReqOffers (s : State) (p : PortId) (l : List RequestMsg) (m : RequestMsg) :
    (s.withReqOffers p l).takesRequest p m = s.takesRequest p m := by
  simp [State.takesRequest, State.withReqOffers]

theorem State.offerRequest_eq {s : State} {p : PortId} {last : RequestMsg} {l : List RequestMsg}
    (h : (s.ports.row p).reqOffers ++ [last] = l) : s.offerRequest p last = s.withReqOffers p l :=
  State.modPort_congr (by rw [h])

theorem State.withReqOffers_self {s : State} {p : PortId} {l : List RequestMsg} (h : (s.ports.row p).reqOffers = l) :
    s.withReqOffers p l = s := by
  subst h
  have hp : s.ports.modRow p (fun po => { po with reqOffers := (s.ports.row p).reqOffers }) = s.ports := Tab.setRow_row _ _
  simp only [State.withReqOffers, State.modPort, hp]

/-- With `m` the oldest offered, the port takes `m` if it can, and then only `rest` is offered. -/
theorem State.requestDue_withReqOffers (s : State) (p : PortId) (m : RequestMsg) (rest : List RequestMsg) :
    (s.withReqOffers p (m :: rest)).requestDue p = s.takesRequest p m := by
  rw [← s.takesRequest_withReqOffers p (m :: rest) m]
  simp [State.requestDue, State.withReqOffers]

theorem State.takeOfferedRequest_withReqOffers (s : State) (p : PortId) (m : RequestMsg) (rest : List RequestMsg) :
    (s.withReqOffers p (m :: rest)).takeOfferedRequest p = (s.withReqOffers p rest).takeRequest p m := by
  simp [State.takeOfferedRequest, State.withReqOffers]

/-- A REQUEST that comes next among what is due is the next due event (log 2). -/
theorem State.nextDue_request {s : State} {p : PortId} (h : s.requestIsNext p) (hd : s.requestDue p = true) :
    s.nextDue = some (.request p) := by
  obtain ⟨hretire, hunit, hbefore⟩ := h
  have h1 : allPorts.find? (fun p => (s.retireStatus p).isSome) = none := by simp [hretire]
  have h2 : allPorts.find? s.unitDue = none := by simp [hunit]
  have h3 : allPorts.find? s.requestDue = some p := by
    rw [allPorts_eq, ← Fin.find?_eq_find?_finRange, Fin.find?_eq_some_iff]
    exact ⟨hd, hbefore⟩
  simp only [State.nextDue, h1, h2, h3]

theorem exec_request (p : PortId) (m : RequestMsg) (s : State) :
    exec (.request p m) s
      = .next (if (s.offerRequest p m).requestDue p then (s.offerRequest p m).takeOfferedRequest p
          else s.offerRequest p m).finish := rfl

/-- A REQUEST that can be taken is taken when it is offered and is the oldest, and at the end of a later event when it comes
next among what is due (R110, R143, log 2). -/
theorem request_taken {s taken : State} {p : PortId} {m : RequestMsg} {rest : List RequestMsg}
    (hm : s.takesRequest p m = true) (ht : (s.withReqOffers p rest).takeRequest p m = taken) :
    (∀ last, (s.port p).reqOffers ++ [last] = m :: rest → exec (.request p last) s = .next taken.finish)
      ∧ ((s.port p).reqOffers = m :: rest → s.ownEventNext = false → s.requestIsNext p → s.finish = taken.finish) := by
  refine ⟨fun last hl => ?_, fun hl hown hnext => ?_⟩
  · rw [exec_request, State.offerRequest_eq hl, s.requestDue_withReqOffers, if_pos hm, s.takeOfferedRequest_withReqOffers,
      ht]
  · have hs := State.withReqOffers_self hl
    have hdue : s.requestDue p = true := by rw [← hs, s.requestDue_withReqOffers, hm]
    have htake : s.takeOfferedRequest p = taken := by
      rw [← ht, ← s.takeOfferedRequest_withReqOffers, hs]
    rw [State.finish_next hown (State.nextDue_request hnext hdue)]
    exact congrArg State.finish htake

/-! ### An accepted REQUEST (R7, R17, R18) -/

/-- The conditions of R110 with RST_N high. -/
theorem State.takesRequest_intro {s : State} {p : PortId} {m : RequestMsg} (hr : s.rstLow = false)
    (hmode : s.mode = .pass ∨ s.mode = .regulate) (hp : (s.port p).resetLow = false) (hq : (s.port p).queue.length < 16)
    (hl : m.kind = .write → (s.port p).list.length < 16) : s.takesRequest p m = true := by
  have hadm : s.mode.admits = true := by rcases hmode with h | h <;> rw [h] <;> rfl
  have hlist : (m.kind != .write || decide ((s.port p).list.length < Config.listCapacity)) = true := by
    by_cases hk : m.kind = .write
    · simpa [hk] using hl hk
    · simp [hk]
  have hqueue : decide ((s.port p).queue.length < Config.queueCapacity) = true := decide_eq_true hq
  simp only [State.takesRequest, hr, hadm, hp, hlist, hqueue, Bool.not_false, Bool.and_true]

theorem newRecord_eq (m : RequestMsg) (mode : RecordMode) (entry : Option Tag) :
    newRecord m mode entry
      = if m.kind = .write ∧ m.len.val ≠ 0 then [{ mode := mode, expected := m.len.val, taken := 0, entry := entry }]
        else [] := by
  simp only [newRecord, expectsData_iff]

theorem newEntry_of_ne_fence {m : RequestMsg} (hk : m.kind ≠ .fence) (am : AdmissionMode) (sn : Snapshot) :
    newEntry am m sn
      = { tag := m.tag, kind := m.kind, addr := some m.addr, len := some m.len, disposition := sn.disposition,
          admission := am, region := sn.region, account := sn.account, guard := sn.guard, report := sn.report,
          data := if m.kind = .write ∧ m.len.val ≠ 0 then .waitingData else .complete, held := [], age := 0,
          urgent := false, markDue := false } := by
  simp only [newEntry, expectsData_iff, if_neg hk]

theorem newEntry_of_fence {m : RequestMsg} (hk : m.kind = .fence) (am : AdmissionMode) :
    newEntry am m fenceSnapshot
      = { tag := m.tag, kind := .fence, addr := none, len := none, disposition := .fence, admission := am, region := none,
          account := none, guard := false, report := .all, data := .complete, held := [], age := 0, urgent := false,
          markDue := false } := by
  simp [newEntry, hk, expectsData, fenceSnapshot]

/-- A REQUEST with a free tag is accepted with its snapshot (R7, R111). -/
theorem State.takeRequest_free {s : State} {p : PortId} {m : RequestMsg} {rest : List RequestMsg} {sn : Snapshot}
    (hd : (s.port p).tags.row m.tag = false) (hsn : s.snapshotOf p m = sn) :
    (s.withReqOffers p rest).takeRequest p m
      = (s.raiseRefusal p m sn).modPort p (fun po => { po.enqueue s.mode.admission m sn with reqOffers := rest }) := by
  have hd' : ((s.withReqOffers p rest).port p).tags.row m.tag = false := by simpa [State.withReqOffers] using hd
  have hsn' : (s.withReqOffers p rest).snapshotOf p m = sn := by
    rw [← hsn]; simp [State.snapshotOf, State.withReqOffers]
  have hr : (s.withReqOffers p rest).raiseRefusal p m sn = (s.raiseRefusal p m sn).withReqOffers p rest := by
    unfold State.raiseRefusal; split <;> rfl
  rw [State.takeRequest, if_neg (by rw [hd']; exact Bool.false_ne_true), State.accept, hsn', hr, State.withReqOffers,
    State.modPort_modPort]
  rfl

/-- Settles O11: the port takes the request as one with a free tag, in the admission mode that the mode gives. -/
theorem requestIsClassifiedAndQueued : Obligations.RequestIsClassifiedAndQueued := by
  intro p m rest s sn am hk hr hmode hp hq hl hd hsn taken
  have ham : am = s.mode.admission := by rcases hmode with ⟨h, rfl⟩ | ⟨h, rfl⟩ <;> rw [h] <;> rfl
  refine request_taken (State.takesRequest_intro hr (hmode.imp And.left And.left) hp hq hl) ?_
  rw [State.takeRequest_free hd (sn := sn) (by rw [hsn, ham]; rfl)]
  refine State.modPort_congr ?_
  simp only [Port.enqueue, newRecord_eq, newEntry_of_ne_fence hk, ham]
  rfl

/-- Settles O12: the snapshot of a FENCE refuses nothing, and a FENCE places no record. -/
theorem fenceIsQueuedUnclassified : Obligations.FenceIsQueuedUnclassified := by
  intro p m rest s am hk hr hmode hp hq hd taken
  have ham : am = s.mode.admission := by rcases hmode with ⟨h, rfl⟩ | ⟨h, rfl⟩ <;> rw [h] <;> rfl
  have hl : m.kind = .write → (s.port p).list.length < 16 := fun h => by rw [hk] at h; cases h
  have hsn : s.snapshotOf p m = fenceSnapshot := classify_fence hk
  refine request_taken (State.takesRequest_intro hr (hmode.imp And.left And.left) hp hq hl) ?_
  rw [State.takeRequest_free hd hsn]
  refine State.modPort_congr ?_
  simp [Port.enqueue, Port.addTag, newRecord_eq, newEntry_of_fence hk, hk, ham]

end Sys2Proof.Machine
end

section
/-! SUPPORT. The management port: commands that answer a record or refuse it, and the bytes of the records (R5, R40, R87,
R123, R156, R160, R164, R166). -/

namespace Sys2Proof.Machine

/-! ### Commands that are awaited -/

section
variable {s : State} {c : Instr} {f : State → Answer}

/-- A command that answers OK with a payload (R156). -/
theorem State.onCommand_returns (h : s.awaits c) {payload : List Byte} (hf : f s = s.returns payload) :
    s.onCommand c f = s.answered c .ok payload := by
  rw [State.onCommand_awaited h, hf]
  rfl

/-- A command that answers OK and changes the state. -/
theorem State.onCommand_did (h : s.awaits c) {t : State} (hf : f s = State.did t) :
    s.onCommand c f = t.answered c .ok [] := by
  rw [State.onCommand_awaited h, hf]
  rfl

/-- A refusal carries as many zeros as the response has bytes (R156). -/
theorem State.onCommand_badIndex (h : s.awaits c) (hf : f s = s.refuses .badIndex) :
    s.onCommand c f
      = s.answered c .badIndex (List.replicate (responseLength (((encodeFrame c).getD []).headD 0)) 0) := by
  rw [State.onCommand_awaited h, hf]
  rfl

theorem State.onCommand_badValue (h : s.awaits c) (hf : f s = s.refuses .badValue) :
    s.onCommand c f
      = s.answered c .badValue (List.replicate (responseLength (((encodeFrame c).getD []).headD 0)) 0) := by
  rw [State.onCommand_awaited h, hf]
  rfl

end

theorem indexIn_of_lt {n : Nat} {b : Byte} (h : b.toNat < n) : indexIn n b = some ⟨b.toNat, h⟩ := dif_pos h

theorem indexIn_of_not_lt {n : Nat} {b : Byte} (h : ¬b.toNat < n) : indexIn n b = none := dif_neg h

/-! ### Reads of a record -/

section
variable {s : State} {x : Byte}

/-- A read of a record: the record's bytes, or BAD_INDEX when the index names none (R156, R157). -/
theorem State.onCommand_indexed {n : Nat} {c : Instr} {f : State → Answer} {payload : Fin n → List Byte} (h : s.awaits c)
    (hsome : ∀ i, indexIn n x = some i → f s = s.returns (payload i))
    (hnone : indexIn n x = none → f s = s.refuses .badIndex) :
    s.onCommand c f
      = if hx : x.toNat < n then s.answered c .ok (payload ⟨x.toNat, hx⟩)
        else s.answered c .badIndex (List.replicate (responseLength (((encodeFrame c).getD []).headD 0)) 0) := by
  by_cases hx : x.toNat < n
  · rw [dif_pos hx]
    exact State.onCommand_returns h (hsome _ (indexIn_of_lt hx))
  · rw [dif_neg hx]
    exact State.onCommand_badIndex h (hnone (indexIn_of_not_lt hx))

theorem exec_readRegion (h : s.awaits (.readRegion x)) :
    exec (.readRegion x) s
      = .next (if hx : x.toNat < 16 then s.answered (.readRegion x) .ok (regionBytes (s.regions.row ⟨x.toNat, hx⟩))
          else s.answered (.readRegion x) .badIndex (List.replicate 14 0)) :=
  congrArg Host.Outcome.next (State.onCommand_indexed (payload := fun i => regionBytes (s.regions.row i)) h
    (fun i hi => by simp only [hi]) (fun hi => by simp only [hi]))

theorem exec_readAccount (h : s.awaits (.readAccount x)) :
    exec (.readAccount x) s
      = .next (if hx : x.toNat < 16 then s.answered (.readAccount x) .ok (accountBytes (s.account ⟨x.toNat, hx⟩))
          else s.answered (.readAccount x) .badIndex (List.replicate 13 0)) :=
  congrArg Host.Outcome.next (State.onCommand_indexed (payload := fun i => accountBytes (s.account i)) h
    (fun i hi => by simp only [hi]) (fun hi => by simp only [hi]))

theorem exec_readPort (h : s.awaits (.readPort x)) :
    exec (.readPort x) s
      = .next (if hx : x.toNat < 4 then s.answered (.readPort x) .ok (portBytes (s.port ⟨x.toNat, hx⟩).config)
          else s.answered (.readPort x) .badIndex (List.replicate 6 0)) :=
  congrArg Host.Outcome.next (State.onCommand_indexed (payload := fun i => portBytes (s.port i).config) h
    (fun i hi => by simp only [hi]) (fun hi => by simp only [hi]))

theorem exec_readSlot (h : s.awaits (.readSlot x)) :
    exec (.readSlot x) s
      = .next (if hx : x.toNat < 32 then s.answered (.readSlot x) .ok (slotBytes (s.slot ⟨x.toNat, hx⟩))
          else s.answered (.readSlot x) .badIndex (List.replicate 28 0)) :=
  congrArg Host.Outcome.next (State.onCommand_indexed (payload := fun i => slotBytes (s.slot i)) h
    (fun i hi => by simp only [hi]) (fun hi => by simp only [hi]))

end

/-! ### Counter groups (R160) -/

theorem parseGroup_account {g x : Byte} (hg : g.toNat = 0) :
    parseGroup g x = if hx : x.toNat < 16 then .ok (.account ⟨x.toNat, hx⟩) else .error .badIndex := by
  by_cases hx : x.toNat < 16
  · simp only [parseGroup, hg, indexIn_of_lt hx, dif_pos hx]
  · simp only [parseGroup, hg, indexIn_of_not_lt hx, dif_neg hx]

theorem parseGroup_port {g x : Byte} (hg : g.toNat = 1) :
    parseGroup g x = if hx : x.toNat < 4 then .ok (.port ⟨x.toNat, hx⟩) else .error .badIndex := by
  by_cases hx : x.toNat < 4
  · simp only [parseGroup, hg, indexIn_of_lt hx, dif_pos hx]
  · simp only [parseGroup, hg, indexIn_of_not_lt hx, dif_neg hx]

theorem parseGroup_global {g x : Byte} (hg : g.toNat = 2) : parseGroup g x = .ok .global := by
  simp only [parseGroup, hg]

theorem parseGroup_unnamed {g x : Byte} (h0 : g.toNat ≠ 0) (h1 : g.toNat ≠ 1) (h2 : g.toNat ≠ 2) :
    parseGroup g x = .error .badValue := by
  unfold parseGroup
  split
  · contradiction
  · contradiction
  · contradiction
  · rfl

theorem exec_readCounters_ok {s : State} {x g : Byte} {k : Group} (h : s.awaits (.readCounters x g))
    (hk : parseGroup g x = .ok k) :
    exec (.readCounters x g) s = .next (s.answered (.readCounters x g) .ok (countersBytes (s.groupCounters k))) :=
  congrArg Host.Outcome.next (State.onCommand_returns h (by rw [hk]))

theorem exec_readCounters_badIndex {s : State} {x g : Byte} (h : s.awaits (.readCounters x g))
    (hk : parseGroup g x = .error .badIndex) :
    exec (.readCounters x g) s = .next (s.answered (.readCounters x g) .badIndex (List.replicate 20 0)) :=
  congrArg Host.Outcome.next (State.onCommand_badIndex h (by rw [hk]))

theorem exec_readCounters_badValue {s : State} {x g : Byte} (h : s.awaits (.readCounters x g))
    (hk : parseGroup g x = .error .badValue) :
    exec (.readCounters x g) s = .next (s.answered (.readCounters x g) .badValue (List.replicate 20 0)) :=
  congrArg Host.Outcome.next (State.onCommand_badValue h (by rw [hk]))

/-! ### Bytes (R164) -/

theorem natToBytes_four (n : Nat) : natToBytes 4 n = natToBytes 2 (n / 65536) ++ natToBytes 2 n := by
  simp [natToBytes, Nat.div_div_eq_div_mul]

theorem natToBytes_five (n : Nat) : natToBytes 5 n = BitVec.ofNat 8 (n / 2 ^ 32) :: natToBytes 4 n := by
  simp [natToBytes, Nat.div_div_eq_div_mul]

/-- A set of flags as a number: the sum of the weights of those that are set. -/
theorem bitsToNat_map_finRange : ∀ (n : Nat) (b : Fin n → Bool),
    bitsToNat ((List.finRange n).map b) = ((List.finRange n).map (fun k => bit (b k) k.val)).sum
  | 0, _ => rfl
  | n + 1, b => by
    have hshift : ∀ k : Fin n, bit (b k.succ) k.succ.val = 2 * bit (b k.succ) k.val := fun k => by
      simp only [bit, Fin.val_succ]
      split
      · rw [Nat.pow_succ, Nat.mul_comm]
      · rfl
    rw [List.finRange_succ, List.map_cons, List.map_cons, List.sum_cons, List.map_map, List.map_map, bitsToNat,
      bitsToNat_map_finRange n, ← List.sum_map_mul_left]
    refine congrArg _ (congrArg _ (List.map_congr_left fun k _ => (hshift k).symm))

theorem bitsToNat_tab {n : Nat} (t : Tab n Bool) :
    bitsToNat t.toList = ((List.finRange n).map (fun k => bit (t.row k) k.val)).sum := by
  rw [Tab.toList_eq_map, bitsToNat_map_finRange]

theorem optByte_eq_elim {n : Nat} (o : Option (Fin n)) : optByte o = o.elim 0xFF (fun x => BitVec.ofNat 8 x.val) := by
  cases o <;> rfl

theorem dirCode_eq_bit (d : Dir) : dirCode d = bit (decide (d = .write)) 0 := by cases d <;> rfl

/-- Settles O44: each record is written in the bytes of Table 10-3, and a command answers the record or refuses. -/
theorem recordReadsReturnTheRecord : Obligations.RecordReadsReturnTheRecord := by
  intro x g s byte two four address flag report region account port slot counters
  have hfour : ∀ n, natToBytes 4 n = four n := natToBytes_four
  have haddress : ∀ a : Addr, natToBytes 5 a.toNat = address a := fun a => by rw [natToBytes_five, hfour]
  have hreport : ∀ m : ReportMode, m.code = report m := fun m => by cases m <;> rfl
  have hregion : ∀ e, regionBytes e = region e := fun e => by
    simp only [regionBytes, haddress, hreport, Tab.toList_eq_map, List.map_map, ← allPorts_eq]
    refine congrArg _ (List.map_congr_left fun p _ => ?_)
    simp only [Function.comp, AccountSelection.code]
    cases e.selection.row p <;> rfl
  have haccount : ∀ a, accountBytes a = account a := fun ⟨⟨cls, _, _, _, _, _, _, _⟩, _, _⟩ => by cases cls <;> rfl
  have hport : ∀ c, portBytes c = port c := fun ⟨_, _, _, noRegion, _, report⟩ => by
    cases noRegion <;> cases report <;> rfl
  have hslot : ∀ sl, slotBytes sl = slot sl := fun sl => by
    simp only [slotBytes, haddress, hreport, hfour, optByte_eq_elim, dirCode_eq_bit, bitsToNat_tab]
    rfl
  have hcounters : ∀ l, countersBytes l = counters l := fun l => by
    simp only [countersBytes, hfour]
    rfl
  refine ⟨fun h => ?_, fun h => ?_, fun h => ?_, fun h => ?_, fun h => ?_⟩
  · simp only [exec_readRegion h, hregion]
  · simp only [exec_readAccount h, haccount]
  · simp only [exec_readPort h, hport]
  · simp only [exec_readSlot h, hslot]
  · by_cases h0 : g.toNat = 0
    · have hk := parseGroup_account (x := x) h0
      rw [if_pos h0]
      split
      · next hx => rw [exec_readCounters_ok h (hk.trans (dif_pos hx)), hcounters]; rfl
      · next hx => exact exec_readCounters_badIndex h (hk.trans (dif_neg hx))
    rw [if_neg h0]
    by_cases h1 : g.toNat = 1
    · have hk := parseGroup_port (x := x) h1
      rw [if_pos h1]
      split
      · next hx => rw [exec_readCounters_ok h (hk.trans (dif_pos hx)), hcounters]; rfl
      · next hx => exact exec_readCounters_badIndex h (hk.trans (dif_neg hx))
    rw [if_neg h1]
    by_cases h2 : g.toNat = 2
    · rw [if_pos h2, exec_readCounters_ok h (parseGroup_global h2), hcounters]
      rfl
    · rw [if_neg h2]
      exact exec_readCounters_badValue h (parseGroup_unnamed h0 h1 h2)

end Sys2Proof.Machine
end

section
/-! SUPPORT. WRITE REGION: which payloads are a region entry, and which entry they are (R4, R166). -/

namespace Sys2Proof.Machine

/-! ### Codes (R166) -/

theorem indexIn_eq_some_iff {n : Nat} {b : Byte} {i : Fin n} : indexIn n b = some i ↔ i.val = b.toNat := by
  constructor
  · intro h
    unfold indexIn at h
    split at h
    · cases h; rfl
    · cases h
  · intro h
    rw [indexIn_of_lt (h ▸ i.isLt)]
    exact congrArg some (Fin.ext h.symm)

theorem reportModeOf_code (r : ReportMode) : reportModeOf r.code = some r := by cases r <;> rfl

theorem reportModeOf_le {b : Byte} {r : ReportMode} (h : reportModeOf b = some r) : b.toNat ≤ 3 := by
  unfold reportModeOf at h
  split at h
  · omega
  · omega
  · omega
  · omega
  · cases h

theorem accountSelectionOf_code (a : AccountSelection) : accountSelectionOf a.code = some a := by
  cases a with
  | account a => revert a; decide
  | portDefault => decide

/-- A byte that names an account or "port default". -/
def namesSelection (b : Byte) : Prop := b.toNat < 16 ∨ b = 0x80

theorem accountSelectionOf_names {b : Byte} {a : AccountSelection} (h : accountSelectionOf b = some a) :
    namesSelection b := by
  unfold accountSelectionOf at h
  split at h
  · next hb => exact .inl hb
  · split at h
    · next hb => exact .inr hb
    · cases h

/-! ### The payload of WRITE REGION -/

/-- The base that the payload carries (R166). -/
def payloadBase (b : Tab 14 Byte) : Nat := bytesToNat [b.row 2, b.row 3, b.row 4, b.row 5, b.row 6]

theorem payloadBase_lt (b : Tab 14 Byte) : payloadBase b < 2 ^ 40 := by
  have h2 := (b.row 2).isLt
  have h3 := (b.row 3).isLt
  have h4 := (b.row 4).isLt
  have h5 := (b.row 5).isLt
  have h6 := (b.row 6).isLt
  simp only [payloadBase, bytesToNat, List.foldl]
  omega

theorem regionFields_base_toNat (b : Tab 14 Byte) (c : Fin 29) (r : ReportMode) (sel : Tab 4 AccountSelection) :
    (regionFields b c r sel).base.toNat = payloadBase b := Nat.mod_eq_of_lt (payloadBase_lt b)

/-- The checks of R4 on the payload. -/
structure PayloadSound (b : Tab 14 Byte) : Prop where
  size : (b.row 1).toNat ≤ 28
  aligned : payloadBase b % 2 ^ (12 + (b.row 1).toNat) = 0
  names : namesSelection (b.row 10) ∧ namesSelection (b.row 11) ∧ namesSelection (b.row 12) ∧ namesSelection (b.row 13)
  report : (b.row 9).toNat ≤ 3

theorem selectionFields_names {b : Tab 14 Byte} {sel : Tab 4 AccountSelection} (h : selectionFields b = some sel) :
    namesSelection (b.row 10) ∧ namesSelection (b.row 11) ∧ namesSelection (b.row 12) ∧ namesSelection (b.row 13) := by
  unfold selectionFields at h
  split at h
  · next h0 h1 h2 h3 =>
    exact ⟨accountSelectionOf_names h0, accountSelectionOf_names h1, accountSelectionOf_names h2,
      accountSelectionOf_names h3⟩
  · cases h

/-- A payload that is taken passes the checks of R4. -/
theorem parseRegion_sound {b : Tab 14 Byte} {e : RegionEntry} (h : parseRegion b = some e) : PayloadSound b := by
  unfold parseRegion at h
  split at h
  · next c r sel hc hr hsel =>
    have hcv := indexIn_eq_some_iff.mp hc
    dsimp only at h
    split at h
    · next hb =>
      rw [regionFields_base_toNat, hcv] at hb
      exact ⟨by omega, hb, selectionFields_names hsel, reportModeOf_le hr⟩
    · cases h
  · cases h

theorem selectionFields_of_codes {b : Tab 14 Byte} {sel : Tab 4 AccountSelection}
    (h : ∀ p : PortId, (sel.row p).code = b.row ⟨10 + p.val, by omega⟩) : selectionFields b = some sel := by
  have h0 : accountSelectionOf (b.row 10) = some (sel.row 0) := h 0 ▸ accountSelectionOf_code _
  have h1 : accountSelectionOf (b.row 11) = some (sel.row 1) := h 1 ▸ accountSelectionOf_code _
  have h2 : accountSelectionOf (b.row 12) = some (sel.row 2) := h 2 ▸ accountSelectionOf_code _
  have h3 : accountSelectionOf (b.row 13) = some (sel.row 3) := h 3 ▸ accountSelectionOf_code _
  simp only [selectionFields, h0, h1, h2, h3]
  refine congrArg some (Tab.ext_rows fun p => ?_)
  fin_cases p <;> rfl

/-- An entry whose fields are those of a payload that passes the checks is the entry that the payload is (R166). -/
theorem parseRegion_of_fields {b : Tab 14 Byte} {e : RegionEntry} (hs : PayloadSound b)
    (hvalid : e.valid = (b.row 0).getLsbD 7) (hbase : e.base.toNat = payloadBase b)
    (hsize : e.sizeCode.val = (b.row 1).toNat) (hrp : e.readPorts = (b.row 7).extractLsb' 0 4)
    (hwp : e.writePorts = (b.row 7).extractLsb' 4 4)
    (hrl : e.readLevel.val = (b.row 8).toNat / 16 % 4) (hwl : e.writeLevel.val = (b.row 8).toNat % 4)
    (hsel : ∀ p : PortId, (e.selection.row p).code = b.row ⟨10 + p.val, by omega⟩) (hguard : e.guard = (b.row 0).getLsbD 0)
    (hreport : e.report.code = b.row 9) : parseRegion b = some e := by
  have hc : indexIn 29 (b.row 1) = some e.sizeCode := indexIn_eq_some_iff.mpr hsize
  have hr : reportModeOf (b.row 9) = some e.report := hreport ▸ reportModeOf_code _
  have hfields : regionFields b e.sizeCode e.report e.selection = e := by
    obtain ⟨valid, base, sizeCode, readPorts, writePorts, readLevel, writeLevel, selection, guard, report⟩ := e
    simp only [regionFields, RegionEntry.mk.injEq, and_true, true_and]
    refine ⟨hvalid.symm, BitVec.eq_of_toNat_eq ?_, ?_, ?_, Fin.ext hrl.symm, Fin.ext hwl.symm, hguard.symm⟩
    · exact (Nat.mod_eq_of_lt (payloadBase_lt b)).trans hbase.symm
    · exact hrp.symm
    · have hshift : (b.row 7).toNat >>> 4 = (b.row 7).toNat / 16 := Nat.shiftRight_eq_div_pow _ 4
      exact hshift ▸ hwp.symm
  have haligned : e.base.toNat % 2 ^ (12 + e.sizeCode.val) = 0 := by
    rw [hbase, hsize]
    exact hs.aligned
  simp only [parseRegion, hc, hr, selectionFields_of_codes hsel, hfields, if_pos haligned]

/-- Settles O45: the index is tested first, then the payload, and a sound payload is the entry with its fields. -/
theorem writeRegionReplacesTheEntry : Obligations.WriteRegionReplacesTheEntry := by
  intro x b s h base names sound
  have hsound : sound ↔ PayloadSound b :=
    ⟨fun ⟨h1, h2, h3, h4, h5, h6, h7⟩ => ⟨h1, h2, ⟨h3, h4, h5, h6⟩, h7⟩,
      fun ⟨h1, h2, ⟨h3, h4, h5, h6⟩, h7⟩ => ⟨h1, h2, h3, h4, h5, h6, h7⟩⟩
  refine ⟨fun hx => ?_, fun hx hns => ?_, fun i e hi hs hvalid hbase hsize hrp hwp hrl hwl hsel hguard hreport => ?_⟩
  · have hnone : indexIn 16 x = none := indexIn_of_not_lt (Nat.not_lt.mpr hx)
    exact congrArg Host.Outcome.next (State.onCommand_badIndex h (by simp only [hnone]))
  · have hnone : parseRegion b = none := by
      cases hp : parseRegion b with
      | none => rfl
      | some e => exact absurd (hsound.mpr (parseRegion_sound hp)) hns
    have hsome := indexIn_of_lt hx
    exact congrArg Host.Outcome.next (State.onCommand_badValue h (by simp only [hsome, hnone]))
  · have hp := parseRegion_of_fields (hsound.mp hs) hvalid hbase hsize hrp hwp hrl hwl hsel hguard hreport
    have hsome : indexIn 16 x = some i := indexIn_eq_some_iff.mpr hi
    exact congrArg Host.Outcome.next (State.onCommand_did h (by simp only [hsome, hp]))

end Sys2Proof.Machine
end

section
/-! SUPPORT. WRITE ACCOUNT: which payloads are an account's parameters, and what the command does with them (R36, R37,
R166). -/

namespace Sys2Proof.Machine

theorem accountClassOf_eq_some_iff {b : Byte} {c : AccountClass} : accountClassOf b = some c ↔ c.code = b := by
  constructor
  · intro h
    unfold accountClassOf at h
    split at h
    · next hb => cases h; exact BitVec.eq_of_toNat_eq hb.symm
    · next hb => cases h; exact BitVec.eq_of_toNat_eq hb.symm
    · next hb => cases h; exact BitVec.eq_of_toNat_eq hb.symm
    · cases h
  · rintro rfl
    cases c <;> rfl

theorem AccountClass.code_le (c : AccountClass) : c.code.toNat ≤ 2 := by cases c <;> decide

/-- The parameters that the payload carries, of class `c` (R166). -/
def payloadParams (b : Tab 11 Byte) (c : AccountClass) : AccountParams :=
  { cls := c
    limit := (b.row 2).toNat * 256 + (b.row 3).toNat
    clip := (b.row 4).toNat * 256 + (b.row 5).toNat
    requestCharge := (b.row 6).toNat
    unitCharge := (b.row 7).toNat
    drain := (b.row 8).toNat
    window := ((b.row 9).toNat * 256 + (b.row 10).toNat) % 4096
    spareUse := (b.row 1).getLsbD 7 }

/-- The checks of R36 on the parameters. -/
structure AccountParams.Sound (p : AccountParams) : Prop where
  limit : p.limit ≤ p.clip
  drain : p.drain ≠ 0
  window : p.window ≠ 0

theorem bytesToNat_pair (x y : Byte) : bytesToNat [x, y] = x.toNat * 256 + y.toNat := by simp [bytesToNat]

/-- The fields of the payload bound what R36 does not check (R166). -/
theorem payloadParams_bounds (b : Tab 11 Byte) (c : AccountClass) :
    (payloadParams b c).clip ≤ 65535 ∧ (payloadParams b c).requestCharge ≤ 255 ∧ (payloadParams b c).unitCharge ≤ 255
      ∧ (payloadParams b c).drain ≤ 255 ∧ (payloadParams b c).window ≤ 4095 := by
  have hclip : (b.row 4).toNat * 256 + (b.row 5).toNat ≤ 65535 := by
    have h4 := (b.row 4).isLt
    have h5 := (b.row 5).isLt
    omega
  exact ⟨hclip, Nat.le_of_lt_succ (b.row 6).isLt, Nat.le_of_lt_succ (b.row 7).isLt, Nat.le_of_lt_succ (b.row 8).isLt,
    Nat.le_of_lt_succ (Nat.mod_lt _ (by decide))⟩

/-- A payload is taken when it names a class and its parameters pass the checks (R36). -/
theorem parseAccount_eq_some_iff {b : Tab 11 Byte} {w : AccountWrite} :
    parseAccount b = some w
      ↔ ∃ c : AccountClass, c.code = b.row 0 ∧ (payloadParams b c).Sound
          ∧ w = { params := payloadParams b c, resetBalance := (b.row 1).getLsbD 0 } := by
  simp only [← accountClassOf_eq_some_iff, parseAccount, bytesToNat_pair]
  cases accountClassOf (b.row 0) with
  | none => simp
  | some c =>
    have hs : (payloadParams b c).Sound
        ↔ ¬((payloadParams b c).clip < (payloadParams b c).limit ∨ (payloadParams b c).drain = 0
            ∨ (payloadParams b c).window = 0) := by
      rw [not_or, not_or, Nat.not_lt]
      exact ⟨fun ⟨h1, h2, h3⟩ => ⟨h1, h2, h3⟩, fun ⟨h1, h2, h3⟩ => ⟨h1, h2, h3⟩⟩
    simp only [Option.some.injEq, exists_eq_left', hs]
    split
    · next h => exact ⟨nofun, fun ⟨hn, _⟩ => absurd h hn⟩
    · next h => exact ⟨fun hw => ⟨h, (Option.some.inj hw).symm⟩, fun ⟨_, hw⟩ => congrArg some hw.symm⟩

theorem State.modAccount_congr {s : State} {a : AccountId} {f g : Account → Account}
    (h : f (s.accounts.row a) = g (s.accounts.row a)) : s.modAccount a f = s.modAccount a g := by
  simp only [State.modAccount, Tab.modRow, h]

/-- Settles O46: the index is tested first, then the payload, and a sound payload is the account's parameters. -/
theorem writeAccountReplacesTheParameters : Obligations.WriteAccountReplacesTheParameters := by
  intro x b s h limit clip window sound
  refine ⟨fun hx => ?_, fun hx hns => ?_, fun a c ha hs hc => ?_⟩
  · have hnone : indexIn 16 x = none := indexIn_of_not_lt (Nat.not_lt.mpr hx)
    exact congrArg Host.Outcome.next (State.onCommand_badIndex h (by simp only [hnone]))
  · have hnone : parseAccount b = none := by
      refine Option.eq_none_iff_forall_ne_some.mpr fun w hw => ?_
      obtain ⟨c, hc, ⟨hlimit, hdrain, hwindow⟩, -⟩ := parseAccount_eq_some_iff.mp hw
      exact hns ⟨hc ▸ c.code_le, hlimit, hdrain, hwindow⟩
    have hsome := indexIn_of_lt hx
    exact congrArg Host.Outcome.next (State.onCommand_badValue h (by simp only [hsome, hnone]))
  · obtain ⟨-, hlimit, hdrain, hwindow⟩ := hs
    have hp := parseAccount_eq_some_iff.mpr ⟨c, hc, ⟨hlimit, hdrain, hwindow⟩, rfl⟩
    have hsome : indexIn 16 x = some a := indexIn_eq_some_iff.mpr ha
    refine congrArg Host.Outcome.next (State.onCommand_did h ?_)
    simp only [hsome, hp]
    refine congrArg State.did (State.modAccount_congr ?_)
    simp only [Account.write, min_def]
    rfl

end Sys2Proof.Machine
end

section
/-! SUPPORT. The accounts: a tick drains them, a grant charges them, WRITE ACCOUNT replaces them, and every step keeps them in
range (R22, R25, R31, R37). -/

namespace Sys2Proof.Machine

/-! ### One account -/

theorem Account.drainTick_eq (a : Account) :
    a.drainTick
      = { a with balance := a.balance - a.params.drain
                 counters := if a.params.limit < a.balance - a.params.drain
                   then { a.counters with overTicks := a.counters.overTicks + 1 } else a.counters } := by
  simp only [Account.drainTick, Account.over, decide_eq_true_eq]
  split <;> rfl

theorem Account.inRange_reset : Account.reset.inRange := by simp [Account.inRange, Account.reset]

/-- A change of the balance within the clip. -/
theorem Account.inRange.change {a b : Account} (h : a.inRange) (hp : b.params = a.params) (hb : b.balance ≤ a.params.clip) :
    b.inRange := by
  unfold Account.inRange
  rw [hp]
  exact ⟨hb, h.2⟩

theorem Account.inRange.balance_le {a : Account} (h : a.inRange) : a.balance ≤ a.params.clip := h.1

theorem Account.inRange.drainTick {a : Account} (h : a.inRange) : a.drainTick.inRange := by
  rw [Account.drainTick_eq]
  exact h.change rfl (Nat.le_trans (Nat.sub_le _ _) h.balance_le)

/-- A charge goes no higher than the clip (R25). -/
theorem Account.inRange.chargeGrant {a : Account} (h : a.inRange) (t : Tier) (len : Nat) : (a.chargeGrant t len).inRange :=
  h.change rfl (Nat.min_le_left _ _)

/-- Parameters that pass the checks of R36 are in range, and the balance is clipped (R37). -/
theorem Account.inRange_write (a : Account) {b : Tab 11 Byte} {w : AccountWrite} (h : parseAccount b = some w) :
    (a.write w).inRange := by
  obtain ⟨c, -, ⟨hlimit, hdrain, hwindow⟩, rfl⟩ := parseAccount_eq_some_iff.mp h
  have hbalance : (a.write { params := payloadParams b c, resetBalance := (b.row 1).getLsbD 0 }).balance
      ≤ (payloadParams b c).clip := by
    simp only [Account.write]
    split
    · exact Nat.zero_le _
    · exact Nat.min_le_right _ _
  obtain ⟨hclip, hrequest, hunit, hdrain', hwindow'⟩ := payloadParams_bounds b c
  exact ⟨hbalance, hlimit, hclip, hrequest, hunit, Nat.pos_of_ne_zero hdrain, hdrain', Nat.pos_of_ne_zero hwindow, hwindow'⟩

/-! ### The table -/

theorem AccountsInRange.of_same {s t : State} (h : AccountsInRange s) (ha : t.accounts = s.accounts) : AccountsInRange t := by
  unfold AccountsInRange State.account
  rw [ha]
  exact h

theorem AccountsInRange.modRow {s t : State} (h : AccountsInRange s) {a : AccountId} {f : Account → Account}
    (ha : t.accounts = s.accounts.modRow a f) (hf : (s.accounts.row a).inRange → (f (s.accounts.row a)).inRange) :
    AccountsInRange t := by
  intro b
  rw [State.account_eq, ha, Tab.row_modRow]
  split
  · exact hf (h a)
  · exact h b

/-- What a grant charges: the account that the entry's snapshot names, if any (R25, R58). -/
def State.chargedAccounts (s : State) (e : Entry) (t : Tier) : Tab 16 Account :=
  match e.account with
  | none => s.accounts
  | some a => s.accounts.modRow a (fun r => r.chargeGrant t e.units)

theorem State.chargeFor_eq (s : State) (e : Entry) (t : Tier) :
    s.chargeFor e t = { s with accounts := s.chargedAccounts e t } := by
  unfold State.chargeFor State.chargedAccounts
  cases e.account <;> rfl

theorem State.grantMove_accounts (s : State) (t : Tier) (p : PortId) (e : Entry) (rest : List Entry) (i : SlotId) :
    (s.grantMove t p e rest i).accounts = s.chargedAccounts e t := by
  simp only [State.grantMove, State.chargeFor_eq]
  rfl

theorem AccountsInRange.charged {s t : State} (h : AccountsInRange s) {e : Entry} {tier : Tier}
    (ha : t.accounts = s.chargedAccounts e tier) : AccountsInRange t := by
  unfold State.chargedAccounts at ha
  split at ha
  · exact h.of_same ha
  · exact h.modRow ha fun hr => hr.chargeGrant tier e.units

/-- A move drains, charges, replaces or clears an account, each within the clip, or leaves the table (R22). -/
theorem Move.keeps_accountsInRange {s t : State} (m : Move s t) (h : AccountsInRange s) : AccountsInRange t := by
  cases m with
  | fullReset w =>
    intro a
    simpa [State.fullReset, State.held] using Account.inRange_reset
  | tick =>
    intro a
    simpa [State.tickWork] using (h a).drainTick
  | grant t p e rest i => exact h.charged (s.grantMove_accounts t p e rest i)
  | writeAccount a w hw =>
    obtain ⟨b, hb⟩ := hw
    exact h.modRow (State.modAccount_accounts s a _) fun _ => Account.inRange_write _ hb
  | clearGroup g =>
    cases g with
    | account a => exact h.modRow (State.modAccount_accounts s a _) fun hr => hr.change rfl hr.balance_le
    | port p => exact h
    | global => exact h
  | accept p m => exact h.of_same (State.accept_sameButDue _ p m).accounts
  | linkFail => exact h.of_same s.linkFail_sameButDue.accounts
  | resetLink => exact h.of_same (by simp [State.resetLink, s.freeAllSlots_same.accounts])
  | _ => exact h

/-- Settles O53: every move keeps the accounts in range, and a step is a chain of moves. -/
theorem accountsStayInRange : Obligations.AccountsStayInRange :=
  fun _ _ h hstep => step_keeps (fun _ _ m => m.keeps_accountsInRange) (fun _ _ h => h) h hstep

end Sys2Proof.Machine
end

section
/-! SUPPORT. TICK and URGENT_MARK: what a tick does to an account, a queue and a slot, and the mark given to a head (R28 to R31,
R34, R35, R79 to R82). -/

namespace Sys2Proof.Machine

/-! ### Below the period and at it (R28, R29) -/

theorem exec_tick_count {k : Nat} {s : State} (hr : s.rstLow = false) (hk : s.ticks.count + k < s.ticks.period) :
    exec (.tick k) s = .next { s with ticks := { s.ticks with count := s.ticks.count + k } } :=
  congrArg Host.Outcome.next ((if_neg (by simp [hr])).trans (if_pos hk))

theorem exec_tick_period {k : Nat} {s : State} (hr : s.rstLow = false) (hk : s.ticks.period ≤ s.ticks.count + k) :
    exec (.tick k) s = .next s.tickWork.finish :=
  congrArg Host.Outcome.next ((if_neg (by simp [hr])).trans (if_neg (Nat.not_lt.mpr hk)))

/-! ### Queues and slots at a tick -/

theorem State.tickQueue_cons (s : State) (e : Entry) (rest : List Entry) :
    s.tickQueue (e :: rest)
      = { e.older with markDue := s.reachesWindow e.older } :: rest.map (fun e => { e.older with markDue := false }) := by
  simp [State.tickQueue, Function.comp_def]

/-- A FREE slot stays; an ORPHANED one is compared by its time orphaned, any other by its age (R79 to R82). -/
theorem Slot.tick_eq (sl : Slot) (t : SlotTiming) :
    sl.tick t
      = if sl.state = .free then sl
        else if sl.state = .orphaned then
          { sl with age := sl.age + 1, timeOrphaned := sl.timeOrphaned + 1
                    due := decide (t.orphanLimit ≤ sl.timeOrphaned + 1) }
        else
          { sl with age := sl.age + 1
                    due := decide (t.responseTimeout ≠ 0 ∧ t.responseTimeout ≤ sl.age + 1) } := by
  split
  · next hf => simp [Slot.tick, Slot.busy, hf]
  · next hf =>
    split
    · next ho => simp [Slot.tick, Slot.busy, Slot.older, Slot.reachesLimit, ho]
    · next ho => simp [Slot.tick, Slot.busy, Slot.older, Slot.reachesLimit, hf, ho]

/-- Settles O20: the count moves below the period, and at it each table changes row by row. -/
theorem tickDrainsAgesAndCompares : Obligations.TickDrainsAgesAndCompares := by
  intro k s hr
  refine ⟨exec_tick_count hr, fun hk => ?_⟩
  intro aged marked
  have hmarked : ∀ e, s.reachesWindow e = marked e := by
    intro e
    simp only [State.reachesWindow, marked]
    cases e.account <;> rfl
  rw [exec_tick_period hr hk]
  refine congrArg (fun u => Host.Outcome.next (State.finish u)) ?_
  simp only [State.tickWork, State.mk.injEq, true_and, and_true]
  refine ⟨congrArg s.ports.mapRows (funext fun po => ?_), congrArg s.accounts.mapRows (funext Account.drainTick_eq),
    congrArg s.slots.mapRows (funext fun sl => sl.tick_eq s.timing)⟩
  refine congrArg (fun q => { po with queue := q }) ?_
  cases po.queue with
  | nil => rfl
  | cons e rest => rw [State.tickQueue_cons, hmarked]; rfl

/-- Settles O21: the accounts after the tick are the drained ones, and the end of the event leaves them. -/
theorem everyAccountDrainsAtATick : Obligations.EveryAccountDrainsAtATick := by
  intro k s hr hk
  refine ⟨_, exec_tick_period hr hk, fun a => ?_⟩
  have hacc : s.tickWork.finish.account a = (s.account a).drainTick := by
    rw [State.account_eq, s.tickWork.finish_sameButDue.accounts]
    exact Tab.row_mapRows _ _ a
  rw [hacc, Account.drainTick_eq]
  exact ⟨(Nat.zero_max _).symm, rfl, rfl⟩

/-! ### The urgent mark (R35) -/

theorem exec_urgentMark_due {p : PortId} {s : State} (h : s.markIsDue p = true) :
    exec (.urgentMark p) s = .next (s.markHead p).finish :=
  congrArg (fun t => Host.Outcome.next (State.finish t)) (if_pos h)

/-- Settles O22: the head that the tick found due is the one that is marked. -/
theorem urgentMarkIsGivenToTheHead : Obligations.UrgentMarkIsGivenToTheHead := by
  intro p s e rest hq hm
  have hdue : s.markIsDue p = true := by simpa only [State.markIsDue, hq] using hm
  refine (exec_urgentMark_due hdue).trans (congrArg (fun t => Host.Outcome.next (State.finish t)) (State.modPort_congr ?_))
  rw [State.port_eq] at hq
  simp only [hq]

end Sys2Proof.Machine
end

section
/-! SUPPORT. GRANT: the slot taken, the ISSUE sent, the owed count and the charge of one arbitration, and the fields of the
messages on ML_DN (R25, R27, R56 to R59, R67, R88, R167). -/

namespace Sys2Proof.Machine

/-! ### The slot and the arbitration -/

theorem Slot.busy_iff {sl : Slot} : sl.busy = true ↔ sl.state ≠ .free := by simp [Slot.busy]

/-- The lowest FREE slot (R67). -/
theorem State.lowestFree_eq_some_iff {s : State} {i : SlotId} :
    s.lowestFree = some i ↔ (s.slot i).state = .free ∧ ∀ j, j < i → (s.slot j).state ≠ .free := by
  have hfind : s.lowestFree = Fin.find? (fun i => !(s.slot i).busy) := Fin.find?_eq_find?_finRange.symm
  have hfree : (!(s.slot i).busy) = true ↔ (s.slot i).state = .free := by
    rw [Bool.not_eq_true', ← Bool.not_eq_true, Slot.busy_iff, not_not]
  rw [hfind, Fin.find?_eq_some_iff, hfree]
  refine and_congr_right fun _ => forall₂_congr fun j _ => ?_
  rw [Bool.not_eq_false', Slot.busy_iff]

/-- An arbitration with an eligible head and a FREE slot is the grant of that head (R56, R59). -/
theorem State.arbitrate_eq {s : State} {t : Tier} {p : PortId} {e : Entry} {rest : List Entry} {i : SlotId}
    (hw : s.winner = some (t, p)) (hi : s.lowestFree = some i) (hq : (s.port p).queue = e :: rest) :
    s.arbitrate = s.grantHead t p e rest i := by
  simp only [State.arbitrate, hw, hi, hq]

theorem State.arbitrate_none {s : State} (hw : s.winner = none) : s.arbitrate = s := by
  simp only [State.arbitrate, hw]

/-! ### The parts of a grant -/

theorem dirOf_eq (k : ReqKind) : dirOf k = if k = .write then .write else .read := by cases k <;> rfl

/-- Only a WRITE carries its held units (R88). -/
theorem State.issueFor_eq (s : State) (i : SlotId) (e : Entry) :
    s.issueFor i e
      = .issue s.link.epoch i (dirOf e.kind) (e.addr.getD 0) (BitVec.ofNat 4 (e.units - 1))
          (if e.kind = .write then some e.held else none) := by
  unfold State.issueFor
  cases e.kind <;> rfl

theorem Port.owe_eq (po : Port) (k : ReqKind) :
    po.owe (dirOf k)
      = { po with owedReads := if k = .write then po.owedReads else po.owedReads + 1
                  owedWrites := if k = .write then po.owedWrites + 1 else po.owedWrites } := by
  cases k <;> rfl

/-- A grant as one update of the state, before its units are released (R58, R59). -/
theorem State.grantHead_eq (s : State) (t : Tier) (p : PortId) (e : Entry) (rest : List Entry) (i : SlotId) :
    s.grantHead t p e rest i
      = State.release
          { s with
            slots := s.slots.setRow i (s.slotFor p e)
            mlDn := s.mlDn ++ [s.issueFor i e]
            ports := s.ports.modRow p (fun po => { po with queue := rest }.owe (dirOf e.kind))
            accounts := s.chargedAccounts e t
            pointer := p } p e.held.length := by
  simp only [State.grantHead, State.chargeFor_eq]
  rfl

/-! ### Fields of the messages on ML_DN (R167) -/

theorem BufUnit.fields_eq (u : BufUnit) :
    u.fields = ⟨256, u.data.toNat⟩ :: (u.mask.elim [⟨1, 0⟩] (fun m => [⟨1, 1⟩, ⟨32, m.toNat⟩])) := by
  unfold BufUnit.fields
  cases u.mask <;> rfl

theorem dirCode_eq (d : Dir) : dirCode d = if d = .read then 0 else 1 := by cases d <;> rfl

/-- Settles O29: the arbitration grants its winner into the lowest FREE slot, and the grant is one update of the state. -/
theorem grantIssuesTheWinner : Obligations.GrantIssuesTheWinner := by
  refine ⟨fun s t p e rest i hw hq hfree hlow => ?_, fun s hw => ?_, fun epoch => rfl, fun epoch i dir addr l units => ?_⟩
  · intro dir
    have hdir : dir = dirOf e.kind := (dirOf_eq e.kind).symm
    have hgrant := State.arbitrate_eq hw (State.lowestFree_eq_some_iff.mpr ⟨hfree, hlow⟩) hq
    refine congrArg (fun u => Host.Outcome.next (State.finish u)) (hgrant.trans ?_)
    rw [State.grantHead_eq, State.issueFor_eq, hdir]
    simp only [Port.owe_eq]
    rfl
  · exact congrArg (fun u => Host.Outcome.next (State.finish u)) (State.arbitrate_none hw)
  · simp only [DnMsg.fields, DnMsg.fieldsAfterKind, dirCode_eq, funext BufUnit.fields_eq]
    rfl

end Sys2Proof.Machine
end

section
/-! SUPPORT. The invariants hold right after reset: every table stands at its reset row, and no slot is in use. -/

namespace Sys2Proof.Machine

/-! ### The tables after reset -/

@[simp] theorem State.reset_port (p : PortId) : State.reset.ports.row p = Port.reset p := by fin_cases p <;> rfl
@[simp] theorem State.reset_region (i : RegionId) : State.reset.regions.row i = RegionEntry.reset := Tab.row_const _ i
@[simp] theorem State.reset_account (a : AccountId) : State.reset.accounts.row a = Account.reset := Tab.row_const _ a
@[simp] theorem State.reset_slot (i : SlotId) : State.reset.slots.row i = Slot.reset := Tab.row_const _ i
@[simp] theorem State.reset_buffer (p : PortId) : State.reset.buffer.row p = { reserve := 0, shared := 0 } := Tab.row_const _ p

/-- No slot has a property that the reset values lack. -/
theorem State.reset_countSlots {q : Slot → Bool} (h : q Slot.reset = false) :
    (State.reset.slots.toList.filter q).length = 0 := by
  rw [List.length_eq_zero_iff, List.filter_eq_nil_iff]
  intro sl hm
  obtain ⟨i, rfl⟩ := (Tab.mem_toList _ _).mp hm
  simp [h]

theorem State.reset_owesTag (p : PortId) (t : Tag) (i : SlotId) : ¬State.reset.owesTag p t i := by
  simp [State.owesTag_iff]

theorem State.reset_owedSlots (p : PortId) (d : Dir) : State.reset.owedSlots p d = 0 :=
  State.reset_countSlots (by simp)

theorem State.reset_slotsInUse : State.reset.slotsInUse = 0 := State.reset_countSlots rfl

/-! ### The invariants -/

theorem accountsInRange_reset : AccountsInRange State.reset := fun a => by
  simpa using Account.inRange_reset

theorem timingInRange_reset : TimingInRange State.reset :=
  ⟨by decide, by decide, by decide, by decide, by decide, by decide⟩

theorem regionsAligned_reset : RegionsAligned State.reset := fun i => by
  simp [RegionEntry.reset]

theorem portsInRange_reset : PortsInRange State.reset := portsInRange_iff.mpr fun p => by
  rw [State.reset_port]
  constructor <;> simp [Port.reset, PortConfig.reset]

theorem bufferInRange_reset : BufferInRange State.reset :=
  ⟨fun p => by simp, by simp [State.sharedInUse]⟩

theorem checkRecordSound_reset : CheckRecordSound State.reset :=
  .inl ⟨fun k => Tab.row_const false k.code, rfl, rfl, rfl⟩

theorem slotsClean_reset : SlotsClean State.reset := fun i _ => State.reset_slot i

/-- No credit is advertised and no slot is in use (R92). -/
theorem linkSound_reset : LinkSound State.reset := by
  refine ⟨Nat.le_of_eq State.reset_slotsInUse, by decide, by decide, fun i hb => ?_, nofun⟩
  rw [State.slot_eq, State.reset_slot] at hb
  cases hb

theorem owedSound_reset : OwedSound State.reset := fun p => by
  simp only [State.reset_owedSlots, State.port_eq, State.reset_port]
  exact ⟨rfl, rfl⟩

theorem tagsSound_reset : TagsSound State.reset := tagsSound_iff.mpr fun p => by
  rw [State.reset_port]
  exact TagsExact.empty (State.reset_owesTag p)

theorem owedWithinLimits_reset : OwedWithinLimits State.reset := fun p => by
  simp only [State.port_eq, State.reset_port]
  exact ⟨Nat.zero_le _, Nat.zero_le _⟩

theorem guardedApart_reset : GuardedApart State.reset := fun i j _ hb => by
  rw [State.slot_eq, State.reset_slot] at hb
  cases hb

theorem writeDataSound_reset : WriteDataSound State.reset := writeDataSound_iff.mpr fun p => by
  rw [State.reset_port, State.reset_buffer]
  exact DataSound.empty

/-- The one message sent is the RESTART of R92. -/
theorem issuesSound_reset : IssuesSound State.reset := fun m hm => by
  obtain rfl := List.mem_singleton.mp hm
  trivial

theorem quiescedEmpty_reset : QuiescedEmpty State.reset := nofun

/-- With empty queues, no offers, FREE slots and the mode PASS, no event is due (R44, R110, R146). -/
theorem prompt_reset : Prompt State.reset := by
  refine .inr (State.nextDue_none fun d hd => ?_)
  cases d with
  | retire p =>
    obtain ⟨st, hst⟩ := hd
    simp [State.retireStatus, Port.reset] at hst
  | unit p => simp [State.DueHolds, State.unitDue, Port.reset] at hd
  | request p => simp [State.DueHolds, State.requestDue, Port.reset] at hd
  | mark p => simp [State.DueHolds, State.markIsDue, Port.reset] at hd
  | timeout i => simp [State.DueHolds, State.timeoutIsDue] at hd
  | detached i => simp [State.DueHolds, State.detachedIsDue, Slot.reset] at hd
  | expiry i => simp [State.DueHolds, State.expiryIsDue, Slot.reset] at hd
  | drain => simp [State.DueHolds, State.drainIsDue, State.reset, State.held] at hd

/-- Settles O60: each invariant holds of the reset values of the tables it speaks of. -/
theorem invariantsHoldAtReset : Obligations.InvariantsHoldAtReset :=
  ⟨accountsInRange_reset, timingInRange_reset, regionsAligned_reset, portsInRange_reset, bufferInRange_reset,
    checkRecordSound_reset, slotsClean_reset, linkSound_reset, owedSound_reset, tagsSound_reset, owedWithinLimits_reset,
    guardedApart_reset, writeDataSound_reset, issuesSound_reset, quiescedEmpty_reset, prompt_reset⟩

end Sys2Proof.Machine
end

section
/-! SUPPORT. The issue arbiter: when a head is eligible and in which tier, which port an arbitration grants, and the FREE slot
it finds (R49 to R57, R59, R66, R76). -/

namespace Sys2Proof.Machine

/-! ### Eligibility (R49) -/

/-- A head is eligible, and stands in its tier, exactly when the conditions of R49 hold of it. -/
theorem State.eligibleTier_eq_some_iff {s : State} {p : PortId} {t : Tier} :
    s.eligibleTier p = some t ↔
      ∃ e rest, (s.ports.row p).queue = e :: rest ∧ e.disposition = .issue ∧ s.creditOk = true
        ∧ (s.ports.row p).owedOk (dirOf e.kind) = true ∧ e.dataOk = true ∧ s.guardClear e = true ∧ s.tierOf e = some t := by
  simp only [State.eligibleTier, State.port_eq]
  cases (s.ports.row p).queue with
  | nil => simp
  | cons e rest => simp [and_assoc]

/-- A credit is available while the link is ONLINE (R50). -/
theorem State.creditOk_iff {s : State} :
    s.creditOk = true ↔ s.link.state = .online ∧ 1 ≤ s.link.advertised - s.slotsInUse := by
  simp only [State.creditOk, Bool.and_eq_true, beq_iff_eq, decide_eq_true_eq]
  rfl

/-- The owed count of the entry's kind is below its limit (R51). -/
theorem Port.owedOk_dirOf_iff {po : Port} {k : ReqKind} :
    po.owedOk (dirOf k) = true
      ↔ if k = .write then po.owedWrites < po.config.writeLimit else po.owedReads < po.config.readLimit := by
  rw [dirOf_eq]
  split <;> simp [Port.owedOk]

/-- A write has its data (R52). -/
theorem Entry.dataOk_iff {e : Entry} : e.dataOk = true ↔ (e.kind = .write → e.data = .complete) := by
  have hread : dirOf e.kind = .read ↔ e.kind ≠ .write := by rw [dirOf_eq]; split <;> simp [*]
  simp only [Entry.dataOk, Bool.or_eq_true, beq_iff_eq, hread]
  exact (imp_iff_not_or (a := e.kind = .write)).symm

/-- A slot stands clear of an entry when, being in use and overlapping with it, it is a read and so is the entry (R76). -/
theorem Slot.not_conflicts_iff {sl : Slot} {e : Entry} :
    sl.conflicts e = false ↔
      (sl.state ≠ .free → sl.addr.toNat ≤ e.first + 32 * e.units - 1 → e.first ≤ sl.addr.toNat + 32 * sl.len - 1 →
        sl.dir = .read ∧ e.kind ≠ .write) := by
  have hdir : sl.dir = .read ↔ sl.dir ≠ .write := by cases sl.dir <;> simp
  rw [← Bool.not_eq_true, hdir]
  simp only [Slot.conflicts, rangesOverlap, Bool.and_eq_true, Bool.or_eq_true, decide_eq_true_eq, beq_iff_eq, dirOf_eq_write,
    Slot.busy_iff, Config.unitBytes]
  tauto

/-- The guard is off, or every slot stands clear of the entry (R53, R76). -/
theorem State.guardClear_iff {s : State} {e : Entry} :
    s.guardClear e = true ↔ (e.guard = true → ∀ i, (s.slots.row i).conflicts e = false) := by
  simp only [State.guardClear, Bool.or_eq_true, Bool.not_eq_true', List.all_eq_true, Tab.mem_toList, forall_exists_index,
    forall_apply_eq_imp_iff]
  cases e.guard <;> simp

/-! ### Tiers (R54, R55) -/

theorem Account.over_iff {a : Account} : a.over = true ↔ a.params.limit < a.balance := by simp [Account.over]

theorem Account.not_over_iff {a : Account} : a.over = false ↔ a.balance ≤ a.params.limit := by simp [Account.over]

/-- An unmarked entry of an account stands in SPARE while the account is over and may use spare capacity, and in the tier of its
class while the account is not over (R24, R54). -/
theorem State.tierOf_account_iff {s : State} {e : Entry} {a : AccountId} {t : Tier} (hu : e.urgent = false)
    (ha : e.account = some a) :
    s.tierOf e = some t ↔
      (s.account a).over = true ∧ (s.account a).params.spareUse = true ∧ t = .spare
        ∨ (s.account a).over = false ∧ (s.account a).params.cls.tier = t := by
  simp only [State.tierOf, hu, ha, Bool.false_eq_true, if_false]
  cases (s.account a).over <;> cases (s.account a).params.spareUse <;> simp [eq_comm]

/-- Each class has its tier, and URGENT and SPARE are the tier of none (R23). -/
theorem AccountClass.tier_eq_iff {c : AccountClass} {t : Tier} :
    c.tier = t ↔ c = .realtime ∧ t = .realtime ∨ c = .budgeted ∧ t = .ordinary ∨ c = .background ∧ t = .background := by
  cases c <;> simp [AccountClass.tier, eq_comm]

/-- The tiers as R55 and Table 3-3 give them. -/
theorem State.tierOf_eq_some_iff {s : State} {e : Entry} {t : Tier} :
    s.tierOf e = some t ↔
      match t with
      | .urgent => e.urgent = true
      | .realtime => e.urgent = false ∧ ∃ a, e.account = some a ∧ (s.account a).params.cls = .realtime
          ∧ (s.account a).balance ≤ (s.account a).params.limit
      | .ordinary => e.urgent = false ∧ (e.account = none ∨ ∃ a, e.account = some a
          ∧ (s.account a).params.cls = .budgeted ∧ (s.account a).balance ≤ (s.account a).params.limit)
      | .background => e.urgent = false ∧ ∃ a, e.account = some a ∧ (s.account a).params.cls = .background
          ∧ (s.account a).balance ≤ (s.account a).params.limit
      | .spare => e.urgent = false ∧ ∃ a, e.account = some a
          ∧ (s.account a).params.limit < (s.account a).balance ∧ (s.account a).params.spareUse = true := by
  cases hu : e.urgent with
  | true => cases t <;> simp [State.tierOf, hu]
  | false =>
    cases ha : e.account with
    | none => cases t <;> simp [State.tierOf, hu, ha]
    | some a =>
      rw [State.tierOf_account_iff hu ha, Account.over_iff, Account.not_over_iff, AccountClass.tier_eq_iff]
      cases t <;> simp [and_comm]

/-- Settles O27: each of the conditions of R49, with the tier of R55, is what the model tests. -/
theorem headIsEligibleByFiveConditions : Obligations.HeadIsEligibleByFiveConditions := by
  intro s p t
  rw [State.eligibleTier_eq_some_iff]
  refine exists_congr fun e => exists_congr fun rest => ?_
  rw [State.creditOk_iff, Port.owedOk_dirOf_iff, Entry.dataOk_iff, State.guardClear_iff, State.tierOf_eq_some_iff, and_assoc]
  simp only [Slot.not_conflicts_iff]
  rfl

/-! ### The arbitration (R56, R57) -/

/-- The first element found in a list is, of those that fit, the one of lowest index. -/
theorem find?_eq_some_iff_idxOf {α : Type} [DecidableEq α] {q : α → Bool} {l : List α} {a : α} :
    l.find? q = some a ↔ q a = true ∧ a ∈ l ∧ ∀ b ∈ l, q b = true → l.idxOf a ≤ l.idxOf b := by
  induction l with
  | nil => simp
  | cons x l ih =>
    cases hx : q x with
    | true =>
      rw [List.find?_cons_of_pos hx, Option.some_inj]
      constructor
      · rintro rfl
        exact ⟨hx, List.mem_cons_self, by simp⟩
      · rintro ⟨-, -, hmin⟩
        by_contra hne
        have := hmin x List.mem_cons_self hx
        simp [List.idxOf_cons_ne _ hne] at this
    | false =>
      have hne : ∀ b, q b = true → x ≠ b := by rintro b hb rfl; simp [hx] at hb
      rw [List.find?_cons_of_neg (by simp [hx]), ih]
      refine and_congr_right fun ha => and_congr (by simp [Ne.symm (hne a ha)]) ?_
      rw [List.forall_mem_cons]
      simp only [hx, Bool.false_eq_true, false_imp_iff, true_and]
      refine forall₂_congr fun b _ => imp_congr_right fun hb => ?_
      rw [List.idxOf_cons_ne _ (hne a ha), List.idxOf_cons_ne _ (hne b hb), Nat.succ_le_succ_iff]

theorem State.mem_roundRobin (s : State) (p : PortId) : p ∈ s.roundRobin := by
  have h : ∀ c q : PortId, q ∈ [c + 1, c + 2, c + 3, c] := by decide
  exact h s.pointer p

/-- A port's place in the round-robin order is its distance from the port after the last granted one (R57). -/
theorem State.idxOf_roundRobin (s : State) (p : PortId) : s.roundRobin.idxOf p = (p - (s.pointer + 1)).val := by
  have h : ∀ c q : PortId, [c + 1, c + 2, c + 3, c].idxOf q = (q - (c + 1)).val := by decide
  exact h s.pointer p

/-- Within a tier the port nearest after the last granted one is granted (R57). -/
theorem State.winnerIn_eq_some_iff {s : State} {t : Tier} {p : PortId} :
    s.winnerIn t = some p ↔
      s.eligibleTier p = some t
        ∧ ∀ q, s.eligibleTier q = some t → (p - (s.pointer + 1)).val ≤ (q - (s.pointer + 1)).val := by
  simp only [State.winnerIn, find?_eq_some_iff_idxOf, State.mem_roundRobin, State.idxOf_roundRobin, beq_iff_eq, true_imp_iff,
    true_and]

/-- A tier has a winner exactly when some eligible head stands in it. -/
theorem State.winnerIn_isSome_iff {s : State} {t : Tier} : (s.winnerIn t).isSome = true ↔ ∃ p, s.eligibleTier p = some t := by
  simp [State.winnerIn, List.find?_isSome, State.mem_roundRobin]

theorem mem_allTiers (t : Tier) : t ∈ allTiers := by cases t <;> decide

/-- The winner is found in the first tier that has one (R56). -/
theorem State.winner_eq (s : State) :
    s.winner = (allTiers.find? (fun t => (s.winnerIn t).isSome)).bind (fun t => (s.winnerIn t).map (fun p => (t, p))) := by
  unfold State.winner
  induction allTiers with
  | nil => rfl
  | cons t l ih => cases h : s.winnerIn t <;> simp [h, ih]

theorem State.winner_eq_some_iff {s : State} {t : Tier} {p : PortId} :
    s.winner = some (t, p) ↔
      s.winnerIn t = some p ∧ ∀ q u, s.eligibleTier q = some u → allTiers.idxOf t ≤ allTiers.idxOf u := by
  have hfind : allTiers.find? (fun t => (s.winnerIn t).isSome) = some t
      ↔ (s.winnerIn t).isSome = true ∧ ∀ q u, s.eligibleTier q = some u → allTiers.idxOf t ≤ allTiers.idxOf u := by
    simp only [find?_eq_some_iff_idxOf, mem_allTiers, true_imp_iff, true_and]
    refine and_congr_right fun _ => ?_
    rw [forall_comm]
    exact forall_congr' fun u => by rw [State.winnerIn_isSome_iff, forall_exists_index]
  rw [State.winner_eq]
  constructor
  · intro h
    obtain ⟨u, hu, hp⟩ := Option.bind_eq_some_iff.mp h
    obtain ⟨r, hr, he⟩ := Option.map_eq_some_iff.mp hp
    cases he
    exact ⟨hr, (hfind.mp hu).2⟩
  · rintro ⟨hp, hmin⟩
    rw [hfind.mpr ⟨by simp [hp], hmin⟩]
    simp [hp]

/-- With no eligible head, and only then, no port is granted (R56). -/
theorem State.winner_eq_none_iff {s : State} : s.winner = none ↔ ∀ p, s.eligibleTier p = none := by
  have htier : ∀ t, s.winnerIn t = none ↔ ∀ p, s.eligibleTier p ≠ some t := fun t => by
    simp [State.winnerIn, List.find?_eq_none, State.mem_roundRobin]
  calc s.winner = none
      ↔ ∀ t, s.winnerIn t = none := by simp [State.winner, mem_allTiers]
    _ ↔ ∀ t p, s.eligibleTier p ≠ some t := forall_congr' htier
    _ ↔ ∀ p t, s.eligibleTier p ≠ some t := forall_comm
    _ ↔ ∀ p, s.eligibleTier p = none := forall_congr' fun _ => Option.eq_none_iff_forall_ne_some.symm

/-- Settles O28: the winner of the first tier that has one, and within it the port first in round-robin order. -/
theorem arbitrationPicksHighestTierRoundRobin : Obligations.ArbitrationPicksHighestTierRoundRobin := by
  intro s
  refine ⟨fun t p => ?_, State.winner_eq_none_iff⟩
  rw [State.winner_eq_some_iff, State.winnerIn_eq_some_iff, and_assoc]
  exact and_congr_right fun _ => and_comm

/-! ### The FREE slot (R59, R66) -/

/-- Fewer slots in use than slots: one is FREE. -/
theorem State.exists_free {s : State} (h : s.slotsInUse < 32) : ∃ i, (s.slots.row i).busy = false := by
  by_contra hn
  have hall : ∀ sl ∈ s.slots.toList, sl.busy = true := by
    intro sl hm
    obtain ⟨i, rfl⟩ := (Tab.mem_toList _ _).mp hm
    simpa using not_exists.mp hn i
  have : s.slotsInUse = 32 := by
    rw [State.slotsInUse, List.filter_eq_self.mpr hall]
    simp
  omega

/-- Wherever a slot is FREE, the lowest one is found (R67). -/
theorem State.lowestFree_isSome {s : State} {i : SlotId} (h : (s.slots.row i).busy = false) : ∃ j, s.lowestFree = some j :=
  Option.isSome_iff_exists.mp (List.find?_isSome.mpr ⟨i, mem_allSlots i, by simp [h]⟩)

/-- Settles O30: an eligible head has a credit, so the slots in use are fewer than the 32 there are. -/
theorem eligibleHeadFindsAFreeSlot : Obligations.EligibleHeadFindsAFreeSlot := by
  intro s p t hlink helig
  obtain ⟨-, hmax, -⟩ := hlink
  obtain ⟨e, rest, -, -, hcredit, -⟩ := State.eligibleTier_eq_some_iff.mp helig
  obtain ⟨-, havail⟩ := State.creditOk_iff.mp hcredit
  obtain ⟨j, hj⟩ := State.exists_free (s := s) (by omega)
  obtain ⟨i, hi⟩ := State.lowestFree_isSome hj
  exact ⟨i, hi, State.lowestFree_eq_some_iff.mp hi⟩

end Sys2Proof.Machine
end

section
/-! SUPPORT. The heads and the end of an event: the cases in which a head retires, what is left due, and what stays as it was
(R44 to R48, R110, R119, R146). -/

namespace Sys2Proof.Machine

/-! ### Heads that retire (Table 3-1) -/

section
variable {s : State} {p : PortId} {e : Entry} {rest : List Entry}

theorem State.retireStatus_refused (hq : (s.ports.row p).queue = e :: rest) (hd : e.disposition = .refused)
    (hc : e.data = .complete) : s.retireStatus p = some .refused := by
  simp [State.retireStatus, hq, hd, hc]

theorem State.retireStatus_dataerr (hq : (s.ports.row p).queue = e :: rest) (hd : e.disposition = .dataerr)
    (hc : e.data = .complete) : s.retireStatus p = some .dataerr := by
  simp [State.retireStatus, hq, hd, hc]

theorem State.retireStatus_fence (hq : (s.ports.row p).queue = e :: rest) (hd : e.disposition = .fence)
    (hl : s.link.state ≠ .failed) (hi : s.portIdle p = true) : s.retireStatus p = some .ok := by
  simp [State.retireStatus, hq, hd, hl, hi]

theorem State.retireStatus_failed (hq : (s.ports.row p).queue = e :: rest)
    (hd : e.disposition = .fence ∨ e.disposition = .issue) (hl : s.link.state = .failed) (hc : e.data = .complete) :
    s.retireStatus p = some .aborted := by
  rcases hd with hd | hd <;> simp [State.retireStatus, hq, hd, hl, hc]

/-- A head that is due with a status retires with it (R44). -/
theorem State.retireIf_due {st : DoneStatus} (hq : (s.ports.row p).queue = e :: rest) (h : s.retireStatus p = some st) :
    s.retireIf p st
      = (s.modPort p (fun po => ({ po with queue := rest }.done e.tag st).countDone st)).release p e.held.length :=
  (if_pos h).trans (State.retire_eq hq)

end

/-- No slot in use holds the port's number (R78). -/
theorem State.portIdle_iff {s : State} {p : PortId} :
    s.portIdle p = true ↔ ∀ i, (s.slots.row i).state ≠ .free → (s.slots.row i).port ≠ p := by
  simp only [State.portIdle, List.all_eq_true, Tab.mem_toList, forall_exists_index, forall_apply_eq_imp_iff]
  exact forall_congr' fun i => by
    rw [Bool.not_eq_true', ← Bool.not_eq_true, Bool.and_eq_true, Slot.busy_iff, beq_iff_eq, not_and]

/-- Settles O31: each case of Table 3-1 by its row. -/
theorem headsRetireByTheirCase : Obligations.HeadsRetireByTheirCase := by
  intro p s e rest hq
  have retires : ∀ {st : DoneStatus}, s.retireStatus p = some st →
      (Host.Outcome.next (s.retireIf p st).finish : Result) = .next (State.finish
        ((s.modPort p (fun po => ({ po with queue := rest }.answers e.tag st).countDone st)).release p e.held.length)) :=
    fun h => by rw [State.retireIf_due hq h]; rfl
  refine ⟨fun hd hc => ?_, fun hd hc => ?_, fun hd hl hi => ?_, fun hd hl hc => ?_⟩
  · exact retires (State.retireStatus_refused hq hd hc)
  · exact retires (State.retireStatus_dataerr hq hd hc)
  · exact retires (State.retireStatus_fence hq hd hl (State.portIdle_iff.mpr hi))
  · exact retires (State.retireStatus_failed hq hd hl hc)

/-! ### Nothing left due -/

theorem State.slotDue_eq_none_iff {s : State} {i : SlotId} :
    s.slotDue i = none ↔ s.timeoutIsDue i = false ∧ s.detachedIsDue i = false ∧ s.expiryIsDue i = false := by
  unfold State.slotDue
  cases s.timeoutIsDue i <;> cases s.detachedIsDue i <;> cases s.expiryIsDue i <;> simp

/-- The model looks for each due event in turn, and finds none exactly when none is due. -/
theorem State.nextDue_eq_none_iff {s : State} : s.nextDue = none ↔ ∀ d, ¬s.DueHolds d := by
  refine ⟨fun h => ?_, State.nextDue_none⟩
  unfold State.nextDue at h
  split at h
  · cases h
  next hretire =>
  split at h
  · cases h
  next hunit =>
  split at h
  · cases h
  next hrequest =>
  split at h
  · cases h
  next hmark =>
  split at h
  · cases h
  next hslots =>
  split at h
  · cases h
  next hdrain =>
  simp only [List.findSome?_eq_none_iff, mem_allSlots, true_imp_iff, State.slotDue_eq_none_iff] at hslots
  intro d hd
  cases d with
  | retire p =>
    obtain ⟨st, hst⟩ := hd
    exact List.find?_eq_none.mp hretire p (mem_allPorts p) (by simp [hst])
  | unit p => exact List.find?_eq_none.mp hunit p (mem_allPorts p) hd
  | request p => exact List.find?_eq_none.mp hrequest p (mem_allPorts p) hd
  | mark p => exact List.find?_eq_none.mp hmark p (mem_allPorts p) hd
  | timeout i =>
    obtain ⟨ht, -, -⟩ := hslots i
    exact Bool.false_ne_true (ht.symm.trans hd)
  | detached i =>
    obtain ⟨-, ht, -⟩ := hslots i
    exact Bool.false_ne_true (ht.symm.trans hd)
  | expiry i =>
    obtain ⟨-, -, he⟩ := hslots i
    exact Bool.false_ne_true (he.symm.trans hd)
  | drain => exact hdrain hd

/-- With fuel for all that can follow one another, nothing is left due. -/
theorem settleWith_nextDue : ∀ (n : Nat) {s : State}, s.dueBound ≤ n → (settleWith n s).nextDue = none
  | n, s, h => by
    cases hd : s.nextDue with
    | none => cases n <;> simp [settleWith, hd]
    | some d =>
      have hlt := State.dueBound_takeDue (State.nextDue_holds hd)
      match n with
      | 0 => omega
      | n + 1 =>
        simp only [settleWith, hd]
        exact settleWith_nextDue n (by omega)

theorem State.settle_nextDue (s : State) : s.settle.nextDue = none := settleWith_nextDue _ (Nat.le_refl _)

/-- Settles O3: `dueBound` is enough fuel, so `settle` stops only where nothing is due. -/
theorem finishLeavesNothingDue : Obligations.FinishLeavesNothingDue := by
  intro s ho
  have hfin : s.finish = s.settle := if_neg (by simp [ho])
  have hnone := State.nextDue_eq_none_iff.mp s.settle_nextDue
  rw [hfin]
  refine ⟨fun p => ?_, fun p => ?_, fun p => ?_, fun p => ?_, fun i => ⟨?_, ?_, ?_⟩, fun ⟨hm, hd⟩ => ?_⟩
  · exact Option.eq_none_iff_forall_ne_some.mpr fun st hst => hnone (.retire p) ⟨st, hst⟩
  · exact Bool.eq_false_iff.mpr (hnone (.unit p))
  · exact Bool.eq_false_iff.mpr (hnone (.request p))
  · exact Bool.eq_false_iff.mpr (hnone (.mark p))
  · exact Bool.eq_false_iff.mpr (hnone (.timeout i))
  · exact Bool.eq_false_iff.mpr (hnone (.detached i))
  · exact Bool.eq_false_iff.mpr (hnone (.expiry i))
  · exact hnone .drain (by simp [State.DueHolds, State.drainIsDue, hm, hd])

/-- Settles O4: no due event touches these parts. -/
theorem finishKeepsTablesTicksSettingsAndQueue : Obligations.FinishKeepsTablesTicksSettingsAndQueue := by
  intro s
  obtain ⟨hregions, haccounts, hticks, hpointer, htiming, hmgmt, hrst, hml, hpending, hconfig, hline⟩ := s.finish_sameButDue
  exact ⟨State.finish_of_nothing_due, State.finish_of_ownEventNext, hregions, haccounts, hticks, hpointer, htiming, hmgmt,
    hrst, hml, hpending, fun p => ⟨hconfig p, hline p⟩⟩

end Sys2Proof.Machine
end

section
/-! SUPPORT. Every move keeps the owed counts equal to the slots that owe an answer (R122): the counts of a port, and the slots
that owe it an answer, change together. -/

namespace Sys2Proof.Machine

/-! ### The owed count of a kind -/

/-- A port's owed count of a kind (R122). -/
def Port.owed (po : Port) : Dir → Nat
  | .read => po.owedReads
  | .write => po.owedWrites

/-- A port's limit of a kind (R123). -/
def PortConfig.limit (c : PortConfig) : Dir → Nat
  | .read => c.readLimit
  | .write => c.writeLimit

theorem Port.owedOk_iff {po : Port} {d : Dir} : po.owedOk d = true ↔ po.owed d < po.config.limit d := by
  cases d <;> simp [Port.owedOk, Port.owed, PortConfig.limit]

theorem Port.owed_congr {a b : Port} (hr : a.owedReads = b.owedReads) (hw : a.owedWrites = b.owedWrites) (d : Dir) :
    a.owed d = b.owed d := by
  cases d
  · exact hr
  · exact hw

theorem Port.owed_withQueue (po : Port) (q : List Entry) (d : Dir) : Port.owed { po with queue := q } d = po.owed d :=
  Port.owed_congr rfl rfl d

theorem Port.owed_owe (po : Port) (d d' : Dir) : (po.owe d).owed d' = po.owed d' + if d = d' then 1 else 0 := by
  cases d <;> cases d' <;> rfl

theorem Port.owed_unowe (po : Port) (d d' : Dir) : (po.unowe d).owed d' = po.owed d' - if d = d' then 1 else 0 := by
  cases d <;> cases d' <;> rfl

theorem Port.owed_portReset (po : Port) (w : Bool) (d : Dir) : (po.portReset w).owed d = 0 := by cases d <;> rfl

theorem Port.owed_fullReset (po : Port) (p : PortId) (w : Bool) (d : Dir) : (po.fullReset p w).owed d = 0 := by
  cases d <;> rfl

theorem Port.owed_answer (po : Port) (t : Tag) (st : DoneStatus) (d d' : Dir) :
    (((po.done t st).unowe d).countDone st).owed d' = po.owed d' - if d = d' then 1 else 0 := by
  rw [Port.owed_congr (b := (po.done t st).unowe d) (by simp) (by simp), Port.owed_unowe]
  rfl

/-- An answer lowers the owed count of its port and kind by 1 (R122). -/
theorem State.owed_answerSlot (s : State) (sl : Slot) (st : DoneStatus) (p : PortId) (d : Dir) :
    ((s.answerSlot sl st).ports.row p).owed d = (s.ports.row p).owed d - if sl.port = p ∧ sl.dir = d then 1 else 0 := by
  by_cases hp : p = sl.port
  · subst hp
    simp [Port.owed_answer]
  · simp [hp, Ne.symm hp]

/-! ### The slots that owe -/

/-- The slot owes port `p` an answer of kind `d` (R65). -/
def Slot.owesTo (sl : Slot) (p : PortId) (d : Dir) : Bool := sl.owes && sl.port == p && sl.dir == d

theorem Slot.owesTo_of_silent {sl : Slot} (h : sl.owes = false) (p : PortId) (d : Dir) : sl.owesTo p d = false := by
  simp [Slot.owesTo, h]

theorem Slot.owesTo_iff_of_owes {sl : Slot} (h : sl.owes = true) (p : PortId) (d : Dir) :
    sl.owesTo p d = true ↔ sl.port = p ∧ sl.dir = d := by
  simp [Slot.owesTo, h]

theorem Slot.owesTo_congr {a b : Slot} (ho : a.owes = b.owes) (hp : a.port = b.port) (hd : a.dir = b.dir) (p : PortId)
    (d : Dir) : a.owesTo p d = b.owesTo p d := by
  simp [Slot.owesTo, ho, hp, hd]

/-- A port reset detaches the port's slots, which owe nothing more, and leaves the others (R83). -/
theorem Slot.owesTo_portReset (sl : Slot) (p q : PortId) (d : Dir) :
    (sl.portReset p).owesTo q d = (q != p && sl.owesTo q d) := by
  unfold Slot.portReset
  split
  · next hb =>
    simp only [Bool.and_eq_true, beq_iff_eq] at hb
    obtain ⟨-, rfl⟩ := hb
    rw [Slot.owesTo_of_silent (by simp [Slot.owes])]
    by_cases hq : q = sl.port
    · simp [hq]
    · simp [Slot.owesTo, Ne.symm hq]
  · next hb =>
    by_cases hq : q = p
    · subst hq
      cases hbusy : sl.busy with
      | false => simp [Slot.owesTo_of_silent (Slot.owes_free hbusy)]
      | true =>
        have hne : sl.port ≠ q := by simpa [hbusy] using hb
        simp [Slot.owesTo, hne]
    · simp [hq]

/-- A reply that neither orphans nor frees a slot leaves it owing what it owed (R65). -/
theorem Slot.owes_progress {sl : Slot} {st : SlotState} {rc : Tab 16 Bool} {po : Bool} (hb : sl.busy = true) (hf : st ≠ .free)
    (ho : st = .orphaned ↔ sl.state = .orphaned) :
    Slot.owes { sl with state := st, received := rc, poisoned := po } = sl.owes := by
  have hst : (st != .orphaned) = (sl.state != .orphaned) := by
    rw [Bool.eq_iff_iff, bne_iff_ne, bne_iff_ne]
    exact not_congr ho
  rw [Slot.owes_of_busy (sl := { sl with state := st, received := rc, poisoned := po }) hf,
    Slot.owes_of_busy (by simpa [Slot.busy] using hb), hst]

theorem Slot.dir_tick (sl : Slot) (t : SlotTiming) : (sl.tick t).dir = sl.dir := by
  unfold Slot.tick
  split <;> rfl

theorem State.owedSlots_congr {s t : State} {p : PortId} {d : Dir}
    (h : ∀ i, (t.slots.row i).owesTo p d = (s.slots.row i).owesTo p d) : t.owedSlots p d = s.owedSlots p d :=
  Tab.count_congr _ _ _ _ h

theorem State.owedSlots_eq_zero {s : State} {p : PortId} {d : Dir} (h : ∀ i, (s.slots.row i).owesTo p d = false) :
    s.owedSlots p d = 0 := by
  unfold State.owedSlots
  rw [List.length_eq_zero_iff, List.filter_eq_nil_iff]
  intro sl hm
  obtain ⟨i, rfl⟩ := (Tab.mem_toList _ _).mp hm
  exact Bool.eq_false_iff.mp (h i)

/-- The number of slots that owe, after one slot is replaced. -/
theorem State.owedSlots_setSlot (s : State) (i : SlotId) (x : Slot) (p : PortId) (d : Dir) :
    (s.setSlot i x).owedSlots p d + (if (s.slots.row i).owesTo p d then 1 else 0)
      = s.owedSlots p d + (if x.owesTo p d then 1 else 0) :=
  Tab.count_setRow s.slots i x (·.owesTo p d)

/-! ### Counts and slots together (R122) -/

theorem owedSound_iff {s : State} : OwedSound s ↔ ∀ p d, (s.ports.row p).owed d = s.owedSlots p d where
  mp h p d := match d with
    | .read => (h p).1
    | .write => (h p).2
  mpr h p := ⟨h p .read, h p .write⟩

/-- The same counts over slots that owe the same. -/
theorem OwedSound.of_same {s t : State} (h : OwedSound s) (hc : ∀ p d, (t.ports.row p).owed d = (s.ports.row p).owed d)
    (ho : ∀ p d i, (t.slots.row i).owesTo p d = (s.slots.row i).owesTo p d) : OwedSound t :=
  owedSound_iff.mpr fun p d => by rw [hc, State.owedSlots_congr (ho p d), owedSound_iff.mp h]

theorem OwedSound.of_tables {s t : State} (h : OwedSound s) (hp : t.ports = s.ports) (hs : t.slots = s.slots) : OwedSound t :=
  h.of_same (fun _ _ => by rw [hp]) (fun _ _ _ => by rw [hs])

/-- A change of one port that keeps its counts. -/
theorem OwedSound.of_modRow {s t : State} (h : OwedSound s) {p : PortId} {f : Port → Port}
    (hp : t.ports = s.ports.modRow p f) (hs : t.slots = s.slots)
    (hr : (f (s.ports.row p)).owedReads = (s.ports.row p).owedReads)
    (hw : (f (s.ports.row p)).owedWrites = (s.ports.row p).owedWrites) : OwedSound t := by
  refine h.of_same (fun q d => ?_) (fun _ _ _ => by rw [hs])
  rw [hp]
  by_cases e : q = p
  · subst e; simpa using Port.owed_congr hr hw d
  · simp [e]

theorem OwedSound.modPort {s : State} (h : OwedSound s) {p : PortId} {f : Port → Port}
    (hr : (f (s.ports.row p)).owedReads = (s.ports.row p).owedReads)
    (hw : (f (s.ports.row p)).owedWrites = (s.ports.row p).owedWrites) : OwedSound (s.modPort p f) :=
  h.of_modRow rfl rfl hr hw

/-- A change of one slot that owes the same after it. -/
theorem OwedSound.setSlot {s : State} (h : OwedSound s) {i : SlotId} {x : Slot}
    (hx : ∀ p d, x.owesTo p d = (s.slots.row i).owesTo p d) : OwedSound (s.setSlot i x) := by
  refine h.of_same (fun _ _ => rfl) (fun p d j => ?_)
  by_cases e : j = i
  · subst e; simpa using hx p d
  · simp [e]

/-- A slot that owes nothing may change into any other that owes nothing. -/
theorem OwedSound.setSlot_silent {s : State} (h : OwedSound s) {i : SlotId} {x : Slot} (hx : x.owes = false)
    (hi : (s.slots.row i).owes = false) : OwedSound (s.setSlot i x) :=
  h.setSlot fun p d => by rw [Slot.owesTo_of_silent hx, Slot.owesTo_of_silent hi]

/-- A slot that answers owes no more, and its port is owed one answer less. -/
theorem OwedSound.answer {s : State} (h : OwedSound s) {i : SlotId} {x : Slot} (st : DoneStatus) (hx : x.owes = false)
    (hi : (s.slots.row i).owes = true) : OwedSound ((s.answerSlot (s.slots.row i) st).setSlot i x) := by
  refine owedSound_iff.mpr fun p d => ?_
  have hs : (s.answerSlot (s.slots.row i) st).owedSlots p d = s.owedSlots p d := State.owedSlots_congr fun _ => rfl
  have hn := (s.answerSlot (s.slots.row i) st).owedSlots_setSlot i x p d
  simp only [State.answerSlot_slots, Slot.owesTo_iff_of_owes hi, Slot.owesTo_of_silent hx, hs] at hn
  rw [State.setSlot_ports, State.owed_answerSlot, owedSound_iff.mp h]
  simp only [Bool.false_eq_true, if_false] at hn
  omega

theorem OwedSound.freeAllSlots {s : State} (h : OwedSound s) : OwedSound s.freeAllSlots := by
  refine State.freeAllSlots_keeps (P := OwedSound) (fun u i hu => ?_) h
  unfold State.abortSlot
  split
  · next hi => exact hu.answer .aborted Slot.owes_reset hi
  · next hi => exact hu.setSlot_silent Slot.owes_reset (by simpa using hi)

/-- Port reset: the port is owed nothing, its slots are detached (R83, R125). -/
theorem OwedSound.dropPort {s : State} (h : OwedSound s) (p : PortId) (w : Bool) : OwedSound (s.dropPort p w) := by
  refine owedSound_iff.mpr fun q d => ?_
  have hrow : ∀ i, ((s.dropPort p w).slots.row i).owesTo q d = (q != p && (s.slots.row i).owesTo q d) := fun i => by
    rw [← Slot.owesTo_portReset]
    simp [State.dropPort]
  rw [State.dropPort_ports]
  by_cases e : q = p
  · subst e
    rw [State.owedSlots_eq_zero fun i => by simp [hrow], Tab.row_modRow_self, Port.owed_portReset]
  · rw [State.owedSlots_congr (s := s) fun i => by simp [hrow, e], Tab.row_modRow_ne _ e, owedSound_iff.mp h]

/-- A grant: the slot taken owes the port one answer of the entry's kind (R58, R122). -/
theorem OwedSound.grantMove {s : State} (h : OwedSound s) (t : Tier) (p : PortId) (e : Entry) (rest : List Entry) {i : SlotId}
    (hi : (s.slots.row i).owes = false) : OwedSound (s.grantMove t p e rest i) := by
  refine owedSound_iff.mpr fun q d => ?_
  have hn := s.owedSlots_setSlot i (s.slotFor p e) q d
  have hs : (s.grantMove t p e rest i).owedSlots q d = (s.setSlot i (s.slotFor p e)).owedSlots q d :=
    State.owedSlots_congr fun j => by simp
  rw [Slot.owesTo_of_silent hi] at hn
  simp only [Slot.owesTo_iff_of_owes (sl := s.slotFor p e) rfl, Bool.false_eq_true, if_false] at hn
  rw [hs, State.grantMove_ports]
  have h0 := owedSound_iff.mp h q d
  have hport : (s.slotFor p e).port = p := rfl
  have hdir : (s.slotFor p e).dir = dirOf e.kind := rfl
  rw [hport, hdir] at hn
  by_cases hp : q = p
  · subst hp
    rw [Tab.row_modRow_self, Port.owed_owe, Port.owed_withQueue]
    simp only [true_and] at hn
    omega
  · rw [Tab.row_modRow_ne _ hp]
    simp only [Ne.symm hp, false_and, if_false] at hn
    omega

/-- Every move keeps the owed counts exact (R122). -/
theorem Move.keeps_owedSound {s t : State} (m : Move s t) (h : OwedSound s) : OwedSound t := by
  cases m with
  | fullReset w =>
    refine owedSound_iff.mpr fun p d => ?_
    rw [State.fullReset_port, Port.owed_fullReset]
    exact (State.owedSlots_eq_zero fun i => Slot.owesTo_of_silent (by simp [State.fullReset, State.held]) p d).symm
  | dropPort p w => exact h.dropPort p w
  | accept p m rest hq ht hd =>
    have h1 := h.modPort (p := p) (f := fun po => { po with reqOffers := rest }) rfl rfl
    exact h1.of_modRow (State.accept_ports _ p m) (State.accept_slots _ p m) rfl rfl
  | duplicate p m rest hq ht hd =>
    have h1 := h.modPort (p := p) (f := fun po => { po with reqOffers := rest }) rfl rfl
    exact OwedSound.modPort (s := (s.modPort p _).raise _ _) h1 rfl rfl
  | releaseLine p => exact h.modPort rfl rfl
  | offerRequest p m => exact h.modPort rfl rfl
  | offerUnit p u => exact h.modPort rfl rfl
  | stray p u us hd hl => exact OwedSound.modPort (s := s.raise _ _) h rfl rfl
  | sink p u us r rs hd hl hm => exact h.modPort (by simp) (by simp)
  | store p u us r rs hc => exact OwedSound.modPort (s := s.setBuf _ _) h (by simp) (by simp)
  | dataerr p u us r rs e hd hl hm he => exact OwedSound.modPort (s := s.raiseParity p e) h (by simp) (by simp)
  | pop p st e rest hq hs => exact h.of_modRow (State.popHead_ports s p st e rest) rfl (by simp) (by simp)
  | mark p => exact h.modPort (by split <;> rfl) (by split <;> rfl)
  | timeout i hd =>
    have ho : (s.slots.row i).owes = true := by
      simp only [State.timeoutIsDue, Bool.and_eq_true] at hd; exact hd.2
    exact h.answer (x := (s.slots.row i).orphanedAt s.ticks.stamp) .timeout (Slot.owes_orphanedAt _ _) ho
  | orphan i hd =>
    simp only [State.detachedIsDue, Bool.and_eq_true] at hd
    obtain ⟨⟨-, hdet⟩, -⟩ := hd
    rw [State.slot_eq] at hdet
    rw [State.orphanSlot_eq]
    exact h.setSlot_silent (Slot.owes_orphanedAt _ _) (by simp [Slot.owes, hdet])
  | linkFail i hd =>
    have hf := OwedSound.freeAllSlots
      (s := { s with link := { state := .failed, epoch := s.link.epoch + 1, advertised := 0 } }) h
    exact hf.of_tables (by simp [State.linkFail]) (by simp [State.linkFail])
  | resetLink hd => exact h.freeAllSlots.of_tables (by simp [State.resetLink]) (by simp [State.resetLink])
  | tick hr =>
    refine h.of_same (fun p d => ?_) (fun p d i => ?_)
    · rw [State.tickWork, Tab.row_mapRows, Port.owed_withQueue]
    · obtain ⟨ho, hp, -⟩ := (s.slots.row i).owes_tick s.timing
      simpa [State.tickWork] using Slot.owesTo_congr ho hp (Slot.dir_tick _ _) p d
  | grant t p e rest i hw hi hq =>
    have hb : (s.slots.row i).busy = false := by simpa using List.find?_some hi
    exact h.grantMove t p e rest (Slot.owes_free hb)
  | progress i sl hb hsl =>
    obtain ⟨st, rc, po, hf, ho, rfl⟩ := hsl
    exact h.setSlot (Slot.owesTo_congr (Slot.owes_progress hb hf ho) rfl rfl)
  | answer i st ho => exact h.answer st Slot.owes_reset ho
  | free i hi => exact h.setSlot_silent Slot.owes_reset hi
  | forward p m => exact h.modPort rfl rfl
  | writePort p c => exact h.modPort rfl rfl
  | clearGroup g =>
    cases g with
    | port p => exact h.modPort rfl rfl
    | account a => exact h
    | global => exact h
  | releaseRst | quiesce | count | raise | countStale | countLate | goOnline | setMgmt | setRegion | writeAccount
  | writeTiming | setMode | setDraining | clearRecord | setMask | ack => exact h

end Sys2Proof.Machine
end

section
/-! SUPPORT. Every move keeps a QUIESCED part empty (R148), and every step the owed counts within the port's limits (R51). -/

namespace Sys2Proof.Machine

/-! ### The idle part (R146, R148) -/

/-- Every queue and list is empty and every slot is FREE: what `drained` tests. -/
structure State.Idle (s : State) : Prop where
  queue : ∀ p, (s.ports.row p).queue = []
  list : ∀ p, (s.ports.row p).list = []
  free : ∀ i, (s.slots.row i).busy = false

theorem State.drained_iff {s : State} : s.drained = true ↔ s.Idle := by
  simp only [State.drained, State.allFree, Bool.and_eq_true, List.all_eq_true, mem_allPorts, true_imp_iff, List.isEmpty_iff,
    State.port_eq, Tab.mem_toList, Bool.not_eq_true', forall_exists_index, forall_apply_eq_imp_iff]
  rw [forall_and, and_assoc]
  exact ⟨fun ⟨hq, hl, hf⟩ => ⟨hq, hl, hf⟩, fun ⟨hq, hl, hf⟩ => ⟨hq, hl, hf⟩⟩

/-- A change of one port that fills neither its queue nor its list. -/
theorem State.Idle.of_modRow {s t : State} (h : s.Idle) {p : PortId} {f : Port → Port} (hp : t.ports = s.ports.modRow p f)
    (hs : t.slots = s.slots) (hq : (s.ports.row p).queue = [] → (f (s.ports.row p)).queue = [])
    (hl : (s.ports.row p).list = [] → (f (s.ports.row p)).list = []) : t.Idle where
  queue q := by
    rw [hp]
    by_cases e : q = p
    · subst e; simpa using hq (h.queue q)
    · simpa [e] using h.queue q
  list q := by
    rw [hp]
    by_cases e : q = p
    · subst e; simpa using hl (h.list q)
    · simpa [e] using h.list q
  free i := by rw [hs]; exact h.free i

theorem State.Idle.modPort {s : State} (h : s.Idle) {p : PortId} {f : Port → Port}
    (hq : (s.ports.row p).queue = [] → (f (s.ports.row p)).queue = [])
    (hl : (s.ports.row p).list = [] → (f (s.ports.row p)).list = []) : (s.modPort p f).Idle :=
  h.of_modRow rfl rfl hq hl

/-- One slot freed. -/
theorem State.Idle.freeSlot {s t : State} (h : s.Idle) {i : SlotId} (hp : t.ports = s.ports)
    (hs : t.slots = s.slots.setRow i Slot.reset) : t.Idle where
  queue q := by rw [hp]; exact h.queue q
  list q := by rw [hp]; exact h.list q
  free j := by
    rw [hs, Tab.row_setRow]
    split
    · rfl
    · exact h.free j

theorem State.Idle.owedSlots {s : State} (h : s.Idle) (p : PortId) (d : Dir) : s.owedSlots p d = 0 :=
  State.owedSlots_eq_zero fun i => Slot.owesTo_of_silent (Slot.owes_free (h.free i)) p d

theorem quiescedEmpty_iff {s : State} : QuiescedEmpty s ↔ (s.mode = .quiesced → s.Idle) := by
  rw [QuiescedEmpty, State.drained_iff]

/-- A change within one mode that leaves an idle part idle. -/
theorem QuiescedEmpty.of_idle {s t : State} (h : QuiescedEmpty s) (hm : t.mode = s.mode) (hi : s.Idle → t.Idle) :
    QuiescedEmpty t :=
  quiescedEmpty_iff.mpr fun hq => hi (quiescedEmpty_iff.mp h (hm ▸ hq))

/-- A change that only a busy slot makes. -/
theorem QuiescedEmpty.of_busy {s t : State} (h : QuiescedEmpty s) (hm : t.mode = s.mode) {i : SlotId}
    (hb : (s.slots.row i).busy = true) : QuiescedEmpty t :=
  h.of_idle hm fun hi => by rw [hi.free i] at hb; cases hb

theorem QuiescedEmpty.of_mode {t : State} (h : t.mode ≠ .quiesced) : QuiescedEmpty t := fun hq => absurd hq h

theorem State.takesRequest_mode {s : State} {p : PortId} {m : RequestMsg} (h : s.takesRequest p m = true) :
    s.mode ≠ .quiesced := by
  rintro hq
  simp [State.takesRequest, hq, Mode.admits] at h

theorem State.Idle.freeAllSlots {s : State} (h : s.Idle) : s.freeAllSlots.Idle where
  queue p := (s.freeAllSlots_same.queue p).trans (h.queue p)
  list p := (s.freeAllSlots_same.list p).trans (h.list p)
  free i := by simp [Slot.busy, Slot.reset]

theorem State.Idle.of_tables {s t : State} (h : s.Idle) (hp : t.ports = s.ports) (hs : t.slots = s.slots) : t.Idle where
  queue p := by rw [hp]; exact h.queue p
  list p := by rw [hp]; exact h.list p
  free i := by rw [hs]; exact h.free i

theorem Slot.busy_of_owes {sl : Slot} (h : sl.owes = true) : sl.busy = true := by
  by_contra hb
  rw [Slot.owes_free (by simpa using hb)] at h
  cases h

/-- A tick fills no queue and takes no slot. -/
theorem State.Idle.tickWork {s : State} (h : s.Idle) : s.tickWork.Idle where
  queue p := by simp [State.tickWork, State.tickQueue, h.queue p]
  list p := by simp [State.tickWork, h.list p]
  free i := by simp [State.tickWork, Slot.tick, h.free i]

/-- A port reset empties the port, and takes no slot. -/
theorem State.Idle.dropPort {s : State} (h : s.Idle) (p : PortId) (w : Bool) : (s.dropPort p w).Idle where
  queue := (h.modPort (f := fun po => po.portReset w) (fun _ => rfl) (fun _ => rfl)).queue
  list := (h.modPort (f := fun po => po.portReset w) (fun _ => rfl) (fun _ => rfl)).list
  free i := by simp [State.dropPort, Slot.portReset, h.free i]

/-- Every move keeps a QUIESCED part empty: what a move fills, it fills in another mode, and what has to be there for a move is
not there in QUIESCED (R148). -/
theorem Move.keeps_quiescedEmpty {s t : State} (m : Move s t) (h : QuiescedEmpty s) : QuiescedEmpty t := by
  cases m with
  | fullReset w => exact .of_mode (by simp [State.fullReset, State.held])
  | releaseRst hr => exact .of_mode (by simp [State.releaseRst])
  | accept p m rest hq ht hd =>
    have hm : ((s.modPort p (fun po => { po with reqOffers := rest })).accept p m).mode = s.mode := by
      unfold State.accept State.raiseRefusal; split <;> rfl
    exact .of_mode (ne_of_eq_of_ne hm (State.takesRequest_mode ht))
  | duplicate p m rest hq ht hd =>
    have hm : ((s.modPort p (fun po => { po with reqOffers := rest })).rejectDuplicate p m).mode = s.mode := rfl
    exact .of_mode (ne_of_eq_of_ne hm (State.takesRequest_mode ht))
  | setMode m hm hs => exact .of_mode (by rcases hm with rfl | rfl <;> simp)
  | setDraining hm => exact .of_mode (by simp)
  | quiesce hd =>
    simp only [State.drainIsDue, Bool.and_eq_true, State.drained_iff] at hd
    obtain ⟨-, hi⟩ := hd
    exact quiescedEmpty_iff.mpr fun _ => hi.of_tables rfl rfl
  | dropPort p w => exact h.of_idle rfl fun hi => hi.dropPort p w
  | releaseLine p => exact h.of_idle rfl fun hi => hi.modPort id id
  | offerRequest p m => exact h.of_idle rfl fun hi => hi.modPort id id
  | offerUnit p u => exact h.of_idle rfl fun hi => hi.modPort id id
  | stray p u us hd hl => exact h.of_idle rfl fun hi => State.Idle.modPort (s := s.raise _ _) (hi.of_tables rfl rfl) id id
  | forward p m => exact h.of_idle rfl fun hi => hi.modPort id id
  | writePort p c hm hc => exact h.of_idle rfl fun hi => hi.modPort id id
  | mark p => exact h.of_idle rfl fun hi => hi.modPort (fun hq => by simp [hq]) (fun hl => by split <;> exact hl)
  | sink p u us r rs hd hl hm => exact h.of_idle rfl fun hi => absurd (hi.list p) (by simp [hl])
  | store p u us r rs hc => exact h.of_idle rfl fun hi => absurd (hi.list p) (by simp [hc.records])
  | dataerr p u us r rs e hd hl hm he => exact h.of_idle rfl fun hi => absurd (hi.list p) (by simp [hl])
  | pop p st e rest hq hs => exact h.of_idle rfl fun hi => absurd (hi.queue p) (by simp [hq])
  | grant t p e rest i hw hi hq =>
    have hm : (s.grantMove t p e rest i).mode = s.mode := by
      simp only [State.grantMove, State.setBuf_mode]
      unfold State.chargeFor
      split <;> rfl
    exact h.of_idle hm fun hi => absurd (hi.queue p) (by simp [hq])
  | timeout i hd =>
    simp only [State.timeoutIsDue, Bool.and_eq_true] at hd
    obtain ⟨-, ho⟩ := hd
    exact h.of_busy rfl (Slot.busy_of_owes ho)
  | orphan i hd =>
    refine h.of_busy (i := i) rfl (Slot.busy_iff.mpr fun hf => ?_)
    simp [State.detachedIsDue, hf] at hd
  | progress i sl hb hsl => exact h.of_busy rfl hb
  | answer i st ho => exact h.of_busy rfl (Slot.busy_of_owes ho)
  | free i hi => exact h.of_idle rfl fun hi => hi.freeSlot rfl rfl
  | linkFail i hd =>
    have hm := (State.freeAllSlots_same
      { s with link := { state := .failed, epoch := s.link.epoch + 1, advertised := 0 } }).mode
    refine h.of_idle (by simpa [State.linkFail] using hm) fun hi => ?_
    have hf := State.Idle.freeAllSlots
      (s := { s with link := { state := .failed, epoch := s.link.epoch + 1, advertised := 0 } }) (hi.of_tables rfl rfl)
    exact hf.of_tables (by simp [State.linkFail]) (by simp [State.linkFail])
  | resetLink hd =>
    exact h.of_idle (by simpa [State.resetLink] using s.freeAllSlots_same.mode) fun hi =>
      hi.freeAllSlots.of_tables (by simp [State.resetLink]) (by simp [State.resetLink])
  | tick hr => exact h.of_idle rfl fun hi => hi.tickWork
  | clearGroup g =>
    cases g with
    | port p => exact h.of_idle rfl fun hi => hi.modPort id id
    | account a => exact h
    | global => exact h
  | count | raise | countStale | countLate | goOnline | setMgmt | setRegion | writeAccount
  | writeTiming | clearRecord | setMask | ack => exact h

/-! ### The limits (R51) -/

theorem owedWithinLimits_iff {s : State} :
    OwedWithinLimits s ↔ ∀ p d, (s.ports.row p).owed d ≤ (s.ports.row p).config.limit d where
  mp h p d := match d with
    | .read => (h p).1
    | .write => (h p).2
  mpr h p := ⟨h p .read, h p .write⟩

theorem OwedWithinLimits.of_ports {s t : State} (h : OwedWithinLimits s) (hp : t.ports = s.ports) : OwedWithinLimits t := by
  unfold OwedWithinLimits at h ⊢
  simpa only [State.port_eq, hp] using h

/-- A change of one port that leaves its counts within its limits. -/
theorem OwedWithinLimits.modRow {s t : State} (h : OwedWithinLimits s) {p : PortId} {f : Port → Port}
    (hp : t.ports = s.ports.modRow p f) (hf : ∀ d, (f (s.ports.row p)).owed d ≤ (f (s.ports.row p)).config.limit d) :
    OwedWithinLimits t := by
  refine owedWithinLimits_iff.mpr fun q d => ?_
  rw [hp]
  by_cases e : q = p
  · subst e; simpa using hf d
  · simpa [e] using owedWithinLimits_iff.mp h q d

/-- A change of one port that keeps its counts and its limits. -/
theorem OwedWithinLimits.of_same {s t : State} (h : OwedWithinLimits s) {p : PortId} {f : Port → Port}
    (hp : t.ports = s.ports.modRow p f) (hc : (f (s.ports.row p)).config = (s.ports.row p).config)
    (hr : (f (s.ports.row p)).owedReads = (s.ports.row p).owedReads)
    (hw : (f (s.ports.row p)).owedWrites = (s.ports.row p).owedWrites) : OwedWithinLimits t :=
  h.modRow hp fun d => by rw [hc, Port.owed_congr hr hw]; exact owedWithinLimits_iff.mp h p d

theorem OwedWithinLimits.modPort {s : State} (h : OwedWithinLimits s) {p : PortId} {f : Port → Port}
    (hc : (f (s.ports.row p)).config = (s.ports.row p).config)
    (hr : (f (s.ports.row p)).owedReads = (s.ports.row p).owedReads)
    (hw : (f (s.ports.row p)).owedWrites = (s.ports.row p).owedWrites) : OwedWithinLimits (s.modPort p f) :=
  h.of_same rfl hc hr hw

/-- An answer lowers a count (R122). -/
theorem OwedWithinLimits.answerSlot {s t : State} (h : OwedWithinLimits s) (sl : Slot) (st : DoneStatus)
    (hp : t.ports = (s.answerSlot sl st).ports) : OwedWithinLimits t := by
  refine h.modRow (hp.trans (State.answerSlot_ports s sl st)) fun d => ?_
  rw [Port.owed_answer, Port.countDone_config, Port.unowe_config, Port.done_config]
  exact Nat.le_trans (Nat.sub_le _ _) (owedWithinLimits_iff.mp h _ d)

theorem OwedWithinLimits.freeAllSlots {s : State} (h : OwedWithinLimits s) : OwedWithinLimits s.freeAllSlots := by
  refine State.freeAllSlots_keeps (P := OwedWithinLimits) (fun u i hu => ?_) h
  unfold State.abortSlot
  split
  · exact hu.answerSlot (u.slot i) .aborted rfl
  · exact hu.of_ports rfl

/-- Only a grant raises an owed count, and it finds the count below its limit (R51); the limits change in QUIESCED alone, where
nothing is owed (R149). -/
theorem Move.keeps_owedWithinLimits {s t : State} (m : Move s t) (ho : OwedSound s) (hq : QuiescedEmpty s)
    (h : OwedWithinLimits s) : OwedWithinLimits t := by
  cases m with
  | fullReset w =>
    refine owedWithinLimits_iff.mpr fun p d => ?_
    rw [State.fullReset_port, Port.owed_fullReset]
    exact Nat.zero_le _
  | grant t p e rest i hw hi hq =>
    obtain ⟨e', rest', hq', -, -, hlim, -⟩ := State.eligibleTier_eq_some_iff.mp (State.winner_eligible hw)
    obtain ⟨rfl, rfl⟩ := List.cons.inj (hq.symm.trans hq')
    refine h.modRow (State.grantMove_ports s t p e rest i) fun d => ?_
    rw [Port.owed_owe, Port.owe_config, Port.owed_withQueue]
    split
    · next hd => exact hd ▸ Port.owedOk_iff.mp hlim
    · exact owedWithinLimits_iff.mp h p d
  | writePort p c hm hc =>
    refine h.modRow (State.modPort_ports s p _) fun d => ?_
    have h0 : (s.ports.row p).owed d = 0 := by rw [owedSound_iff.mp ho, (quiescedEmpty_iff.mp hq hm).owedSlots]
    exact Nat.le_trans (Nat.le_of_eq ((Port.owed_congr rfl rfl d).trans h0)) (Nat.zero_le _)
  | dropPort p w =>
    refine h.modRow (State.dropPort_ports s p w) fun d => ?_
    rw [Port.owed_portReset]
    exact Nat.zero_le _
  | accept p m rest hq ht hd =>
    have h1 := h.modPort (p := p) (f := fun po => { po with reqOffers := rest }) rfl rfl rfl
    exact h1.of_same (State.accept_ports _ p m) rfl rfl rfl
  | duplicate p m rest hq ht hd =>
    have h1 := h.modPort (p := p) (f := fun po => { po with reqOffers := rest }) rfl rfl rfl
    exact h1.of_same (State.rejectDuplicate_ports _ p m) rfl rfl rfl
  | releaseLine p => exact h.modPort rfl rfl rfl
  | offerRequest p m => exact h.modPort rfl rfl rfl
  | offerUnit p u => exact h.modPort rfl rfl rfl
  | stray p u us hd hl => exact OwedWithinLimits.modPort (s := s.raise _ _) h rfl rfl rfl
  | forward p m => exact h.modPort rfl rfl rfl
  | sink p u us r rs hd hl hm => exact h.of_same (State.sinkUnit_ports s p) (by simp) (by simp) (by simp)
  | store p u us r rs hc => exact h.of_same (State.storeUnit_ports s p r u) (by simp) (by simp) (by simp)
  | dataerr p u us r rs e hd hl hm he => exact h.of_same (State.markDataerr_ports s p r e) (by simp) (by simp) (by simp)
  | pop p st e rest hq hs => exact h.of_same (State.popHead_ports s p st e rest) (by simp) (by simp) (by simp)
  | mark p => exact h.modPort (by split <;> rfl) (by split <;> rfl) (by split <;> rfl)
  | timeout i hd => exact h.answerSlot (s.slot i) .timeout rfl
  | answer i st hi => exact h.answerSlot (s.slots.row i) st rfl
  | linkFail i hd =>
    have hf := OwedWithinLimits.freeAllSlots
      (s := { s with link := { state := .failed, epoch := s.link.epoch + 1, advertised := 0 } }) h
    exact hf.of_ports (by simp [State.linkFail])
  | resetLink hd => exact h.freeAllSlots.of_ports (by simp [State.resetLink])
  | tick hr =>
    refine owedWithinLimits_iff.mpr fun p d => ?_
    rw [State.tickWork, Tab.row_mapRows, Port.owed_withQueue]
    exact owedWithinLimits_iff.mp h p d
  | clearGroup g =>
    cases g with
    | port p => exact h.modPort rfl rfl rfl
    | account a => exact h
    | global => exact h
  | releaseRst | orphan | progress | free | quiesce | count | raise | countStale | countLate | goOnline | setMgmt | setRegion
  | writeAccount | writeTiming | setMode | setDraining | clearRecord | setMask | ack => exact h

/-- Settles O57: each of the invariants is kept by every move; the limits need the other two. -/
theorem owedCountsAndTagsStayExact : Obligations.OwedCountsAndTagsStayExact := by
  intro s t _ ho ht hstep
  refine ⟨step_keeps (P := OwedSound) (fun _ _ m => m.keeps_owedSound) (fun _ _ h => h) ho hstep,
    step_keeps (P := TagsSound) (fun _ _ m => m.keeps_tagsSound) (fun _ _ h => h) ht hstep, fun hq hl => ?_⟩
  have hall : OwedSound t ∧ QuiescedEmpty t ∧ OwedWithinLimits t :=
    step_keeps (P := fun u => OwedSound u ∧ QuiescedEmpty u ∧ OwedWithinLimits u)
      (fun _ _ m ⟨ho, hq, hl⟩ => ⟨m.keeps_owedSound ho, m.keeps_quiescedEmpty hq, m.keeps_owedWithinLimits ho hq hl⟩)
      (fun _ _ h => h) ⟨ho, hq, hl⟩ hstep
  obtain ⟨-, -, hlim⟩ := hall
  exact hlim

end Sys2Proof.Machine
end

section
/-! SUPPORT. Every step leaves nothing due (R44, R146): a command either ends with the taking of what is due, or changes nothing
that a due event's condition reads. -/

namespace Sys2Proof.Machine

/-! ### What the conditions of the due events read -/

/-- The two states agree on what the due events' conditions read, the mode left aside. -/
structure State.DueAlike (s t : State) : Prop where
  queue : ∀ p, (t.ports.row p).queue = (s.ports.row p).queue
  list : ∀ p, (t.ports.row p).list = (s.ports.row p).list
  reqOffers : ∀ p, (t.ports.row p).reqOffers = (s.ports.row p).reqOffers
  dataOffers : ∀ p, (t.ports.row p).dataOffers = (s.ports.row p).dataOffers
  resetLow : ∀ p, (t.ports.row p).resetLow = (s.ports.row p).resetLow
  slots : t.slots = s.slots
  buffer : t.buffer = s.buffer
  rstLow : t.rstLow = s.rstLow
  failed : t.link.state = .failed ↔ s.link.state = .failed

section
variable {s t : State}

/-- What a change of one port keeps of that port, it keeps of every port. -/
theorem State.modPort_row_keeps {α : Type} {f : Port → Port} {g : Port → α} (s : State) (p : PortId)
    (h : ∀ po, g (f po) = g po) (q : PortId) : g ((s.modPort p f).ports.row q) = g (s.ports.row q) := by
  rw [State.modPort_ports, Tab.row_modRow]
  split
  · next e => rw [e, h]
  · rfl

/-- A change of one port that keeps its queue, list, offers and reset line. -/
theorem State.DueAlike.modPort {p : PortId} {f : Port → Port} (hq : ∀ po, (f po).queue = po.queue)
    (hl : ∀ po, (f po).list = po.list) (hr : ∀ po, (f po).reqOffers = po.reqOffers)
    (hd : ∀ po, (f po).dataOffers = po.dataOffers) (hrl : ∀ po, (f po).resetLow = po.resetLow) :
    s.DueAlike (s.modPort p f) := by
  refine ⟨?_, ?_, ?_, ?_, ?_, rfl, rfl, rfl, Iff.rfl⟩
  · exact s.modPort_row_keeps p hq
  · exact s.modPort_row_keeps p hl
  · exact s.modPort_row_keeps p hr
  · exact s.modPort_row_keeps p hd
  · exact s.modPort_row_keeps p hrl

theorem State.DueAlike.retireStatus (h : s.DueAlike t) (p : PortId) : t.retireStatus p = s.retireStatus p := by
  simp only [State.retireStatus, State.portIdle, State.port_eq, h.queue, h.slots]
  cases (s.ports.row p).queue with
  | nil => rfl
  | cons e rest => cases e.disposition <;> simp [h.failed]

theorem State.DueAlike.unitDue (h : s.DueAlike t) (p : PortId) : t.unitDue p = s.unitDue p := by
  simp only [State.unitDue, State.bufferRoom, State.sharedInUse, State.port_eq, State.bufCounts_eq, h.dataOffers, h.list,
    h.rstLow, h.resetLow, h.buffer]

theorem State.DueAlike.requestDue (h : s.DueAlike t) (hm : t.mode = s.mode) (p : PortId) : t.requestDue p = s.requestDue p := by
  simp only [State.requestDue, State.takesRequest, State.port_eq, h.reqOffers, h.queue, h.list, h.rstLow, h.resetLow, hm]

theorem State.DueAlike.markIsDue (h : s.DueAlike t) (p : PortId) : t.markIsDue p = s.markIsDue p := by
  simp only [State.markIsDue, State.port_eq, h.queue]

theorem State.DueAlike.timeoutIsDue (h : s.DueAlike t) (i : SlotId) : t.timeoutIsDue i = s.timeoutIsDue i := by
  simp only [State.timeoutIsDue, State.slot_eq, h.slots]

theorem State.DueAlike.detachedIsDue (h : s.DueAlike t) (i : SlotId) : t.detachedIsDue i = s.detachedIsDue i := by
  simp only [State.detachedIsDue, State.slot_eq, h.slots]

theorem State.DueAlike.expiryIsDue (h : s.DueAlike t) (i : SlotId) : t.expiryIsDue i = s.expiryIsDue i := by
  simp only [State.expiryIsDue, State.slot_eq, h.slots]

theorem State.DueAlike.drained (h : s.DueAlike t) : t.drained = s.drained := by
  simp only [State.drained, State.allFree, State.port_eq, h.queue, h.list, h.slots]

/-- Where nothing is due, nothing becomes due unless the mode lets ports take requests or completes a drain. -/
theorem State.DueAlike.nextDue_none (h : s.DueAlike t) (hn : s.nextDue = none)
    (hr : ∀ p, t.requestDue p = true → s.requestDue p = true) (hd : t.drainIsDue = true → s.drainIsDue = true) :
    t.nextDue = none := by
  have hs := State.nextDue_eq_none_iff.mp hn
  refine State.nextDue_none fun d hdue => ?_
  cases d with
  | retire p =>
    obtain ⟨st, hst⟩ := hdue
    exact hs (.retire p) ⟨st, (h.retireStatus p).symm.trans hst⟩
  | unit p => exact hs (.unit p) ((h.unitDue p).symm.trans hdue)
  | request p => exact hs (.request p) (hr p hdue)
  | mark p => exact hs (.mark p) ((h.markIsDue p).symm.trans hdue)
  | timeout i => exact hs (.timeout i) ((h.timeoutIsDue i).symm.trans hdue)
  | detached i => exact hs (.detached i) ((h.detachedIsDue i).symm.trans hdue)
  | expiry i => exact hs (.expiry i) ((h.expiryIsDue i).symm.trans hdue)
  | drain => exact hs .drain (hd hdue)

/-- Where nothing is due, nothing becomes due by a change of what no condition reads. -/
theorem State.DueAlike.prompt (h : s.DueAlike t) (hm : t.mode = s.mode) (hn : s.nextDue = none) : Prompt t :=
  .inr (h.nextDue_none hn (fun p => (h.requestDue hm p).symm.trans) fun hd => by
    simpa only [State.drainIsDue, hm, h.drained] using hd)

end

/-! ### The end of an event -/

theorem finish_prompt (s : State) : Prompt s.finish := by
  cases ho : s.ownEventNext with
  | true => rw [State.finish_of_ownEventNext ho]; exact .inl ho
  | false =>
    have hfin : s.finish = s.settle := if_neg (by simp [ho])
    rw [hfin]
    exact .inr s.settle_nextDue

theorem settle_prompt (s : State) : Prompt s.settle := .inr s.settle_nextDue

/-- After full reset nothing is due: the queues are empty, the slots FREE, and RST_N low holds the offers back (R64, log 9). -/
theorem fullReset_prompt (s : State) (w : Bool) : Prompt (s.fullReset w) := by
  have hq : ∀ p, ((s.fullReset w).ports.row p).queue = [] := fun p => by rw [State.fullReset_port]; rfl
  have hi : ∀ i, (s.fullReset w).slots.row i = Slot.reset := fun i => by simp [State.fullReset, State.held]
  have hrst : (s.fullReset w).rstLow = true := rfl
  refine .inr (State.nextDue_none fun d hd => ?_)
  cases d with
  | retire p =>
    obtain ⟨st, hst⟩ := hd
    simp [State.retireStatus, hq] at hst
  | unit p =>
    simp only [State.DueHolds, State.unitDue, hrst, Bool.not_true, Bool.false_and] at hd
    split at hd <;> cases hd
  | request p =>
    simp only [State.DueHolds, State.requestDue, State.takesRequest, hrst, Bool.not_true, Bool.false_and] at hd
    split at hd <;> cases hd
  | mark p => simp [State.DueHolds, State.markIsDue, hq] at hd
  | timeout i => simp [State.DueHolds, State.timeoutIsDue, hi] at hd
  | detached i => simp [State.DueHolds, State.detachedIsDue, hi, Slot.reset] at hd
  | expiry i => simp [State.DueHolds, State.expiryIsDue, hi, Slot.reset] at hd
  | drain => simp [State.DueHolds, State.drainIsDue, State.fullReset, State.held] at hd

/-! ### Management commands -/

/-- The response fixed at the end of a command makes nothing due. -/
theorem onFrame_prompt {s : State} {cmd : List Byte} {len : Nat} {f : State → Answer} (h : Prompt s) (hf : Prompt (f s).state) :
    Prompt (s.onFrame cmd len f) := by
  unfold State.onFrame
  split
  · exact hf
  · exact h

theorem onCommand_prompt {s : State} {c : Instr} {f : State → Answer} (h : Prompt s) (hf : Prompt (f s).state) :
    Prompt (s.onCommand c f) := onFrame_prompt h hf

theorem onCommand_read_prompt {s : State} {c : Instr} {f : State → Answer} (h : Prompt s) (hf : (f s).state = s) :
    Prompt (s.onCommand c f) := onCommand_prompt h (hf.symm ▸ h)

/-- A part that begins to drain takes no request, and the drain condition is examined at once (R145, R146). -/
theorem startDrain_prompt {s : State} (hn : s.nextDue = none) : Prompt { s with mode := .draining }.examineDrain := by
  have alike : ∀ m : Mode, m.admits = false → State.drainIsDue { s with mode := m } = false →
      State.nextDue { s with mode := m } = none := by
    intro m hm hd
    have h : s.DueAlike { s with mode := m } := by constructor <;> simp
    refine h.nextDue_none hn (fun p hr => ?_) (fun hdr => absurd hdr (by simp [hd]))
    simp only [State.requestDue, State.takesRequest, hm, Bool.and_false, Bool.false_and] at hr
    split at hr <;> cases hr
  unfold State.examineDrain
  split
  · exact .inr (alike .quiesced rfl rfl)
  · next hd => exact .inr (alike .draining rfl (by simpa using hd))

theorem setMode_prompt {s : State} (hn : s.nextDue = none) (target : Byte) : Prompt (s.setMode target).state := by
  have adm : ∀ m, Prompt (s.setAdmitting m).state := by
    intro m
    unfold State.setAdmitting
    split
    · exact .inr hn
    · exact finish_prompt _
  unfold State.setMode
  split
  · exact adm .pass
  · exact adm .regulate
  · unfold State.setDrain
    split
    · exact startDrain_prompt hn
    · exact startDrain_prompt hn
    · exact .inr hn
    · exact .inr hn
  · exact .inr hn

/-! ### Every command -/

theorem ite_prompt {c : Prop} [Decidable c] {s t : State} (hs : c → Prompt s) (ht : ¬c → Prompt t) :
    Prompt (if c then s else t) := by
  split
  · next h => exact hs h
  · next h => exact ht h

/-- A command has one next state. -/
theorem prompt_of_exec {c : Instr} {s t u : State} (e : exec c s = .next t) (hu : exec c s = .next u) (h : Prompt u) :
    Prompt t := by
  rw [e] at hu
  cases hu
  exact h

/-- An event of the part's own ends with the taking of what is due (log 1). -/
theorem exec_ownEvent_prompt {c : Instr} {s t : State} (hc : ownEvent c = true) (e : exec c s = .next t) : Prompt t := by
  have done : ∀ {u : State}, exec c s = .next u → Prompt u → Prompt t := prompt_of_exec e
  cases c with
  | urgentMark p => exact done rfl (finish_prompt _)
  | responseTimeout i => exact done rfl (finish_prompt _)
  | detachedTimeout i => exact done rfl (finish_prompt _)
  | orphanLimitExpiry i => exact done rfl (ite_prompt (fun _ => settle_prompt _) (fun _ => finish_prompt _))
  | retireRefused p => exact done rfl (finish_prompt _)
  | retireDataerr p => exact done rfl (finish_prompt _)
  | retireFence p => exact done rfl (finish_prompt _)
  | failFast p => exact done rfl (finish_prompt _)
  | drainComplete => exact done rfl (finish_prompt _)
  | _ => cases hc

/-- Where nothing is due, every command leaves nothing due. -/
theorem exec_prompt {c : Instr} {s t : State} (hn : s.nextDue = none) (e : exec c s = .next t) : Prompt t := by
  have done : ∀ {u : State}, exec c s = .next u → Prompt u → Prompt t := prompt_of_exec e
  have h : Prompt s := .inr hn
  have same : ∀ {u : State}, s.DueAlike u → u.mode = s.mode → Prompt u := fun ha hm => ha.prompt hm hn
  cases c with
  | fullReset w => exact done rfl (fullReset_prompt s w)
  | rstNRelease => exact done rfl (ite_prompt (fun _ => finish_prompt _) (fun _ => h))
  | portReset p w => exact done rfl (ite_prompt (fun _ => h) (fun _ => finish_prompt _))
  | portResetRelease p => exact done rfl (ite_prompt (fun _ => finish_prompt _) (fun _ => h))
  | request p m => exact done rfl (finish_prompt _)
  | writeUnit p u => exact done rfl (finish_prompt _)
  | tick k =>
    exact done rfl (ite_prompt (fun _ => h) (fun _ => ite_prompt
      (fun _ => same (by constructor <;> simp) rfl) (fun _ => finish_prompt _)))
  | urgentMark | responseTimeout | detachedTimeout | orphanLimitExpiry | retireRefused | retireDataerr | retireFence | failFast
  | drainComplete => exact exec_ownEvent_prompt rfl e
  | grant => exact done rfl (finish_prompt _)
  | advertise ep k =>
    exact done rfl (ite_prompt (fun _ => h) (fun _ => ite_prompt (fun _ => h) (fun _ => ite_prompt
      (fun hw => same ⟨fun _ => rfl, fun _ => rfl, fun _ => rfl, fun _ => rfl, fun _ => rfl, rfl, rfl, rfl,
        by simp [State.goOnline, hw.1]⟩ rfl) (fun _ => h))))
  | readUnit ep i idx d g =>
    exact done rfl (ite_prompt (fun _ => h) (fun _ => ite_prompt (fun _ => h) (fun _ => ite_prompt
      (fun _ => h) (fun _ => finish_prompt _))))
  | writeDone ep i o =>
    exact done rfl (ite_prompt (fun _ => h) (fun _ => ite_prompt (fun _ => h) (fun _ => ite_prompt
      (fun _ => h) (fun _ => finish_prompt _))))
  | unknownLinkMessage => exact done rfl (ite_prompt (fun _ => h) (fun _ => h))
  | csNFall => exact done rfl (ite_prompt (fun _ => h) (fun _ => h))
  | csNRise k => exact done rfl (ite_prompt (fun _ => h) (fun _ => h))
  | badFrame a b pl ck => exact done rfl (ite_prompt (fun _ => h) (fun _ => onFrame_prompt h h))
  | unknownCommand a b => exact done rfl (ite_prompt (fun _ => h) (fun _ => onCommand_prompt h h))
  | readIdent i => exact done rfl (onCommand_read_prompt h rfl)
  | readStatus i => exact done rfl (onCommand_read_prompt h rfl)
  | readRegion i => exact done rfl (onCommand_read_prompt h (by split <;> rfl))
  | readAccount i => exact done rfl (onCommand_read_prompt h (by split <;> rfl))
  | readPort i => exact done rfl (onCommand_read_prompt h (by split <;> rfl))
  | readTiming i => exact done rfl (onCommand_read_prompt h rfl)
  | readCheckRecord i => exact done rfl (onCommand_read_prompt h rfl)
  | readCounters i g => exact done rfl (onCommand_read_prompt h (by split <;> rfl))
  | readSlot i => exact done rfl (onCommand_read_prompt h (by split <;> rfl))
  | writeRegion i pl =>
    refine done rfl (onCommand_prompt h ?_)
    split
    · exact h
    · split <;> exact h
  | writeAccount i pl =>
    refine done rfl (onCommand_prompt h ?_)
    split
    · exact h
    · split <;> exact h
  | writePort i pl =>
    refine done rfl (onCommand_prompt h ?_)
    split
    · exact h
    · split
      · exact h
      · split
        · exact h
        · exact same (.modPort (fun _ => rfl) (fun _ => rfl) (fun _ => rfl) (fun _ => rfl) (fun _ => rfl)) rfl
  | writeTiming i pl =>
    refine done rfl (onCommand_prompt h ?_)
    split
    · exact h
    · split <;> exact h
  | setModePass i g => exact done rfl (onCommand_prompt h (setMode_prompt hn g))
  | setModeRegulate i => exact done rfl (onCommand_prompt h (setMode_prompt hn 1))
  | setModeDrain i => exact done rfl (onCommand_prompt h (setMode_prompt hn 2))
  | resetLink i =>
    refine done rfl (onCommand_prompt h ?_)
    simp only [State.did]
    exact settle_prompt _
  | clearChecks i pl =>
    refine done rfl (onCommand_prompt h ?_)
    split <;> exact h
  | clearCounters i g =>
    refine done rfl (onCommand_prompt h ?_)
    split
    · exact h
    · next k _ =>
      cases k with
      | port p => exact same (.modPort (fun _ => rfl) (fun _ => rfl) (fun _ => rfl) (fun _ => rfl) (fun _ => rfl)) rfl
      | account a => exact h
      | global => exact h
  | setAlertMask i m =>
    refine done rfl (onCommand_prompt h ?_)
    split <;> exact h
  | ackAlert i m =>
    refine done rfl (onCommand_prompt h ?_)
    split <;> exact h

/-- Every step leaves nothing due, unless the queue names an own event next (R44, R146, log 1). -/
theorem step_prompt {s t : State} (h : Prompt s) (e : step s = .next t) : Prompt t := by
  unfold step at e
  split at e
  · cases e; exact h
  · next c rest hp =>
    rcases h with ho | hn
    · rw [State.ownEventNext, hp] at ho
      exact exec_ownEvent_prompt ho e
    · exact exec_prompt (s := { s with pending := rest }) hn e

/-- Settles O59: every move keeps a QUIESCED part empty, and every command ends with nothing due. -/
theorem quiescedStaysEmptyAndNothingWaits : Obligations.QuiescedStaysEmptyAndNothingWaits :=
  fun _ _ hq hp e => ⟨step_keeps (fun _ _ m => m.keeps_quiescedEmpty) (fun _ _ h => h) hq e, step_prompt hp e⟩

end Sys2Proof.Machine
end

section
/-! SUPPORT. The slots across a move: none but a grant takes a slot into use, and none changes what a slot in use was granted
with; so the slots and the link stay together (R59, R64 to R68, R77, R93, R104). -/

namespace Sys2Proof

/-- A property that passes from each row to the row of the other table holds there of no fewer rows. -/
theorem Tab.count_le {n : Nat} {α : Type} {t u : Tab n α} {q : α → Bool}
    (h : ∀ i, q (u.row i) = true → q (t.row i) = true) :
    (u.toList.filter q).length ≤ (t.toList.filter q).length := by
  simp only [Tab.toList_eq_map, ← List.countP_eq_length_filter, List.countP_map]
  exact List.countP_mono_left fun i _ => h i

end Sys2Proof

namespace Sys2Proof.Machine

/-! ### One slot -/

/-- The slot has the range, kind, guard and epoch with which the other was granted (R59, R77). -/
structure Slot.SameGrant (x y : Slot) : Prop where
  addr : y.addr = x.addr
  len : y.len = x.len
  dir : y.dir = x.dir
  guard : y.guard = x.guard
  epoch : y.epoch = x.epoch

/-- What a change other than a grant does to a slot: it is in use after the change only if it was before, and then with the same
grant; it is FREE after the change at its reset values, or because it has not changed (R65, R68). -/
structure Slot.Stays (x y : Slot) : Prop where
  used : y.busy = true → x.busy = true ∧ x.SameGrant y
  free : y.busy = false → y = Slot.reset ∨ y = x

theorem Slot.SameGrant.refl (x : Slot) : x.SameGrant x := ⟨rfl, rfl, rfl, rfl, rfl⟩

theorem Slot.SameGrant.trans {x y z : Slot} (h : x.SameGrant y) (k : y.SameGrant z) : x.SameGrant z :=
  ⟨k.addr.trans h.addr, k.len.trans h.len, k.dir.trans h.dir, k.guard.trans h.guard, k.epoch.trans h.epoch⟩

theorem Slot.Stays.refl (x : Slot) : x.Stays x := ⟨fun h => ⟨h, .refl x⟩, fun _ => .inr rfl⟩

theorem Slot.Stays.trans {x y z : Slot} (h : x.Stays y) (k : y.Stays z) : x.Stays z where
  used hz := by
    obtain ⟨hy, hyz⟩ := k.used hz
    obtain ⟨hx, hxy⟩ := h.used hy
    exact ⟨hx, hxy.trans hyz⟩
  free hz := by
    rcases k.free hz with hr | rfl
    · exact .inl hr
    · exact h.free hz

/-- A slot may be freed (R68). -/
theorem Slot.Stays.reset (x : Slot) : x.Stays Slot.reset := ⟨nofun, fun _ => .inl rfl⟩

/-- A slot in use may go on in use with the same grant. -/
theorem Slot.Stays.goesOn {x y : Slot} (hx : x.busy = true) (hy : y.busy = true) (h : x.SameGrant y) : x.Stays y :=
  ⟨fun _ => ⟨hx, h⟩, fun hf => by rw [hy] at hf; cases hf⟩

theorem Slot.stays_orphanedAt {x : Slot} (hx : x.busy = true) (stamp : Word32) : x.Stays (x.orphanedAt stamp) :=
  .goesOn hx rfl ⟨rfl, rfl, rfl, rfl, rfl⟩

/-- A port reset detaches slots in use and leaves the others (R83). -/
theorem Slot.stays_portReset (x : Slot) (p : PortId) : x.Stays (x.portReset p) := by
  unfold Slot.portReset
  split
  · next h =>
    simp only [Bool.and_eq_true] at h
    obtain ⟨hx, -⟩ := h
    exact .goesOn hx hx ⟨rfl, rfl, rfl, rfl, rfl⟩
  · exact .refl x

/-- A tick ages slots in use and leaves the others (R79). -/
theorem Slot.stays_tick (x : Slot) (t : SlotTiming) : x.Stays (x.tick t) := by
  unfold Slot.tick
  split
  · next hx => exact .goesOn hx hx ⟨rfl, rfl, rfl, rfl, rfl⟩
  · exact .refl x

/-! ### The table -/

/-- Every slot stays, as a change other than a grant leaves it. -/
def State.SlotsStay (s t : State) : Prop := ∀ i, (s.slots.row i).Stays (t.slots.row i)

theorem State.SlotsStay.refl (s : State) : s.SlotsStay s := fun _ => .refl _

theorem State.SlotsStay.trans {s t u : State} (h : s.SlotsStay t) (k : t.SlotsStay u) : s.SlotsStay u :=
  fun i => (h i).trans (k i)

theorem State.SlotsStay.of_slots {s t : State} (h : t.slots = s.slots) : s.SlotsStay t := fun i => by
  rw [h]
  exact .refl _

theorem State.SlotsStay.of_setRow {s t : State} {i : SlotId} {x : Slot} (ht : t.slots = s.slots.setRow i x)
    (h : (s.slots.row i).Stays x) : s.SlotsStay t := fun j => by
  rw [ht]
  by_cases e : j = i
  · subst e; simpa using h
  · simpa [e] using Slot.Stays.refl _

theorem State.SlotsStay.of_reset {s t : State} (h : ∀ i, t.slots.row i = Slot.reset) : s.SlotsStay t := fun i => by
  rw [h]
  exact .reset _

/-! ### Every move -/

/-- The message is an ISSUE (R88). -/
def DnMsg.isIssue : DnMsg → Bool
  | .restart _ => false
  | .issue .. => true

/-- How many ISSUEs have been sent: one for each grant (R59). -/
def State.issuesSent (s : State) : Nat := s.mlDn.countP DnMsg.isIssue

theorem State.issuesSent_congr {s t : State} (h : t.mlDn = s.mlDn) : t.issuesSent = s.issuesSent := by
  rw [State.issuesSent, State.issuesSent, h]

theorem State.issuesSent_restart {s t : State} {e : Epoch} (h : t.mlDn = s.mlDn ++ [.restart e]) :
    t.issuesSent = s.issuesSent := by
  rw [State.issuesSent, State.issuesSent, h, List.countP_append]
  rfl

theorem State.issuesSent_grantMove (s : State) (t : Tier) (p : PortId) (e : Entry) (rest : List Entry) (i : SlotId) :
    (s.grantMove t p e rest i).issuesSent = s.issuesSent + 1 := by
  rw [State.issuesSent, State.issuesSent, State.grantMove_mlDn, List.countP_append]
  rfl

@[simp] theorem State.resetLink_mlDn (s : State) : s.resetLink.mlDn = s.mlDn ++ [.restart (s.link.epoch + 1)] := by
  simp [State.resetLink, s.freeAllSlots_same.mlDn, s.freeAllSlots_same.link]

@[simp] theorem State.linkFail_slots (s : State) (i : SlotId) : s.linkFail.slots.row i = Slot.reset := by
  simp [State.linkFail]

@[simp] theorem State.resetLink_slots (s : State) (i : SlotId) : s.resetLink.slots.row i = Slot.reset := by
  simp [State.resetLink]

@[simp] theorem State.fullReset_slots (s : State) (w : Bool) (i : SlotId) : (s.fullReset w).slots.row i = Slot.reset :=
  Tab.row_const _ i

/-- Every slot stays and no ISSUE is sent. -/
structure State.Quiet (s t : State) : Prop where
  slots : s.SlotsStay t
  issues : t.issuesSent = s.issuesSent

/-- Every move but a grant lets the slots stay and sends no ISSUE; a grant takes a FREE slot and sends one (R59). -/
theorem Move.quiet_or_grant {s t : State} (m : Move s t) :
    s.Quiet t ∨ ∃ tier p e rest i, s.winner = some (tier, p) ∧ s.lowestFree = some i ∧ (s.ports.row p).queue = e :: rest
      ∧ t = s.grantMove tier p e rest i := by
  cases m with
  | grant tier p e rest i hw hi hq => exact .inr ⟨tier, p, e, rest, i, hw, hi, hq, rfl⟩
  | fullReset w => exact .inl ⟨.of_reset (s.fullReset_slots w), rfl⟩
  | releaseRst => exact .inl ⟨.refl s, State.issuesSent_restart rfl⟩
  | resetLink => exact .inl ⟨.of_reset s.resetLink_slots, State.issuesSent_restart s.resetLink_mlDn⟩
  | linkFail => exact .inl ⟨.of_reset s.linkFail_slots, State.issuesSent_congr s.linkFail_sameButDue.mlDn⟩
  | dropPort p w => exact .inl ⟨fun i => by simpa [State.dropPort] using Slot.stays_portReset _ p, rfl⟩
  | tick => exact .inl ⟨fun i => by simpa [State.tickWork] using Slot.stays_tick _ s.timing, rfl⟩
  | timeout i hd =>
    simp only [State.timeoutIsDue, Bool.and_eq_true] at hd
    obtain ⟨-, ho⟩ := hd
    exact .inl ⟨.of_setRow rfl (Slot.stays_orphanedAt (Slot.busy_of_owes ho) s.ticks.stamp), rfl⟩
  | orphan i hd =>
    have hb : (s.slots.row i).busy = true := Slot.busy_iff.mpr fun hf => by simp [State.detachedIsDue, hf] at hd
    exact .inl ⟨.of_setRow rfl (Slot.stays_orphanedAt hb s.ticks.stamp), rfl⟩
  | progress i sl hb hsl =>
    obtain ⟨st, rc, po, hf, -, rfl⟩ := hsl
    exact .inl ⟨.of_setRow rfl (.goesOn hb (Slot.busy_iff.mpr hf) ⟨rfl, rfl, rfl, rfl, rfl⟩), rfl⟩
  | answer i => exact .inl ⟨.of_setRow rfl (.reset _), rfl⟩
  | free i => exact .inl ⟨.of_setRow rfl (.reset _), rfl⟩
  | accept p m => exact .inl ⟨.of_slots (by simp), State.issuesSent_congr (State.accept_sameButDue _ p m).mlDn⟩
  | clearGroup g => cases g <;> exact .inl ⟨.refl s, rfl⟩
  | _ => exact .inl ⟨.refl s, rfl⟩

/-! ### FREE slots (R64) -/

theorem SlotsClean.of_stay {s t : State} (h : SlotsClean s) (hs : s.SlotsStay t) : SlotsClean t := fun i hi => by
  simp only [State.slot_eq] at hi ⊢
  rcases (hs i).free hi with hr | he
  · exact hr
  · rw [he] at hi ⊢
    exact h i hi

/-- A grant takes one slot into use and leaves the others. -/
theorem SlotsClean.grantMove {s : State} (h : SlotsClean s) (t : Tier) (p : PortId) (e : Entry) (rest : List Entry)
    (i : SlotId) : SlotsClean (s.grantMove t p e rest i) := fun j hj => by
  simp only [State.slot_eq, State.grantMove_slots] at hj ⊢
  by_cases hji : j = i
  · subst hji
    rw [Tab.row_setRow_self] at hj
    cases hj
  · rw [Tab.row_setRow_ne _ hji] at hj ⊢
    exact h j hj

/-- Every move keeps FREE slots at their reset values (R64). -/
theorem Move.keeps_slotsClean {s t : State} (m : Move s t) (h : SlotsClean s) : SlotsClean t := by
  rcases m.quiet_or_grant with hq | ⟨tier, p, e, rest, i, -, -, -, rfl⟩
  · exact h.of_stay hq.slots
  · exact h.grantMove tier p e rest i

/-! ### Slots and credits (R66, R93, R104) -/

theorem State.SlotsStay.slotsInUse_le {s t : State} (h : s.SlotsStay t) : t.slotsInUse ≤ s.slotsInUse :=
  Tab.count_le fun i hi => ((h i).used hi).1

theorem State.slotsInUse_eq_zero {s : State} (h : ∀ i, s.slots.row i = Slot.reset) : s.slotsInUse = 0 := by
  rw [State.slotsInUse, List.length_eq_zero_iff, List.filter_eq_nil_iff]
  intro sl hm
  obtain ⟨i, rfl⟩ := (Tab.mem_toList _ _).mp hm
  rw [h i]
  decide

theorem State.slotsInUse_pos {s : State} {i : SlotId} (h : (s.slots.row i).busy = true) : 1 ≤ s.slotsInUse := by
  rw [State.slotsInUse, ← List.countP_eq_length_filter]
  exact List.countP_pos_iff.mpr ⟨_, (Tab.mem_toList _ _).mpr ⟨i, rfl⟩, h⟩

/-- A grant takes one slot more into use (R59). -/
theorem State.slotsInUse_grantMove {s : State} (t : Tier) (p : PortId) (e : Entry) (rest : List Entry) {i : SlotId}
    (hi : (s.slots.row i).busy = false) : (s.grantMove t p e rest i).slotsInUse = s.slotsInUse + 1 := by
  have hn := Tab.count_setRow s.slots i (s.slotFor p e) Slot.busy
  have hb : (s.slotFor p e).busy = true := rfl
  simp only [hi, hb, Bool.false_eq_true, if_false, if_true] at hn
  rw [State.slotsInUse, State.slotsInUse, State.grantMove_slots]
  exact hn

theorem LinkSound.within {s : State} (h : LinkSound s) : s.slotsInUse ≤ s.link.advertised := h.1

/-- A slot in use has a credit, so RST_N is high (R92, R104). -/
theorem LinkSound.rst_high_of_used {s : State} (h : LinkSound s) (hc : 1 ≤ s.link.advertised) : s.rstLow ≠ true := by
  obtain ⟨-, -, -, -, hr⟩ := h
  intro hlow
  obtain ⟨hl, -⟩ := hr hlow
  rw [hl] at hc
  cases hc

@[simp] theorem State.accept_link (s : State) (p : PortId) (m : RequestMsg) : (s.accept p m).link = s.link := by
  unfold State.accept State.raiseRefusal
  split <;> rfl

/-- The link as it was, over slots that stay. -/
theorem LinkSound.of_stay {s t : State} (h : LinkSound s) (hs : s.SlotsStay t) (hl : t.link = s.link)
    (hr : t.rstLow = s.rstLow) (hm : t.mgmt = s.mgmt) : LinkSound t := by
  obtain ⟨huse, hmax, hon, hep, hrst⟩ := h
  refine ⟨hl ▸ Nat.le_trans hs.slotsInUse_le huse, hl ▸ hmax, hl ▸ hon, fun i hi => ?_, by rw [hl, hr, hm]; exact hrst⟩
  obtain ⟨hb, hg⟩ := (hs i).used hi
  rw [hl]
  exact hg.epoch.trans (hep i hb)

/-- With every slot FREE and no credit, outside ONLINE. -/
theorem LinkSound.of_reset {t : State} (hs : ∀ i, t.slots.row i = Slot.reset) (hc : t.link.advertised = 0)
    (ho : t.link.state ≠ .online) (hr : t.rstLow = true → t.link = Link.reset ∧ t.mgmt.transaction = .idle) :
    LinkSound t := by
  refine ⟨Nat.le_of_eq ((State.slotsInUse_eq_zero hs).trans hc.symm), by omega, ⟨fun h => absurd h ho, by omega⟩,
    fun i hi => ?_, hr⟩
  rw [State.slot_eq, hs i] at hi
  cases hi

/-- Credits come to a waiting link, with no slot in use (R94). -/
theorem LinkSound.goOnline {s : State} (h : LinkSound s) {n : Nat} (hr : s.rstLow = false) (hl : s.link.state = .waitCredit)
    (h1 : 1 ≤ n) (h2 : n ≤ 32) : LinkSound (s.goOnline n) := by
  obtain ⟨huse, -, hon, hep, -⟩ := h
  have hnone : s.slotsInUse = 0 := by
    have : ¬1 ≤ s.link.advertised := fun hc => by rw [← hon, hl] at hc; cases hc
    omega
  refine ⟨?_, h2, ⟨fun _ => h1, fun _ => rfl⟩, hep, fun hlow => ?_⟩
  · calc (s.goOnline n).slotsInUse = s.slotsInUse := rfl
      _ ≤ n := by omega
  · rw [show (s.goOnline n).rstLow = s.rstLow from rfl, hr] at hlow
    cases hlow

/-- A grant finds a credit for the slot it takes, which gets the current epoch (R50, R59). -/
theorem LinkSound.grantMove {s : State} (h : LinkSound s) {t : Tier} {p : PortId} {e : Entry} {rest : List Entry} {i : SlotId}
    (hw : s.winner = some (t, p)) (hi : (s.slots.row i).busy = false) : LinkSound (s.grantMove t p e rest i) := by
  obtain ⟨-, -, -, -, hcredit, -⟩ := State.eligibleTier_eq_some_iff.mp (State.winner_eligible hw)
  obtain ⟨-, havail⟩ := State.creditOk_iff.mp hcredit
  have hhigh := h.rst_high_of_used (by omega)
  obtain ⟨huse, hmax, hon, hep, -⟩ := h
  have hlink : (s.grantMove t p e rest i).link = s.link := by
    simp only [State.grantMove, State.setBuf_link]; unfold State.chargeFor; split <;> rfl
  have hrst : (s.grantMove t p e rest i).rstLow = s.rstLow := by
    simp only [State.grantMove, State.setBuf_rstLow]; unfold State.chargeFor; split <;> rfl
  refine ⟨?_, hlink ▸ hmax, hlink ▸ hon, fun j hj => ?_, fun hlow => absurd (hrst ▸ hlow) hhigh⟩
  · rw [State.slotsInUse_grantMove t p e rest hi, hlink]
    omega
  · simp only [State.slot_eq, State.grantMove_slots, hlink] at hj ⊢
    by_cases hji : j = i
    · subst hji
      rw [Tab.row_setRow_self]
      rfl
    · rw [Tab.row_setRow_ne _ hji] at hj ⊢
      exact hep j hj

/-- Every move keeps the slots in use within the credits and in the current epoch, and credits only while ONLINE (R66, R93,
R104). -/
theorem Move.keeps_linkSound {s t : State} (m : Move s t) (h : LinkSound s) : LinkSound t := by
  rcases m.quiet_or_grant with ⟨hs, hissues⟩ | ⟨tier, p, e, rest, i, hw, hi, -, rfl⟩
  · cases m with
    | fullReset w => exact .of_reset (s.fullReset_slots w) rfl nofun fun _ => ⟨rfl, rfl⟩
    | releaseRst hr =>
      obtain ⟨huse, hmax, hon, hep, hrst⟩ := h
      obtain ⟨hl, -⟩ := hrst hr
      have hlink : s.releaseRst.link = s.link := hl.symm
      exact ⟨by rw [hlink]; exact huse, by rw [hlink]; exact hmax, by rw [hlink]; exact hon,
        fun i hi => by rw [hlink]; exact hep i hi, nofun⟩
    | linkFail i hd =>
      have hhigh : s.rstLow ≠ true := by
        have hb : (s.slots.row i).busy = true := Slot.busy_iff.mpr fun hf => by simp [State.expiryIsDue, hf] at hd
        exact h.rst_high_of_used (Nat.le_trans (State.slotsInUse_pos hb) h.within)
      have hl := (State.freeAllSlots_same
        { s with link := { state := .failed, epoch := s.link.epoch + 1, advertised := 0 } }).link
      refine .of_reset s.linkFail_slots ?_ ?_ fun hlow => absurd (s.linkFail_sameButDue.rstLow ▸ hlow) hhigh
      · simp [State.linkFail, hl]
      · simp [State.linkFail, hl]
    | resetLink ht =>
      refine .of_reset s.resetLink_slots rfl nofun fun hlow => ?_
      obtain ⟨-, -, -, -, hrst⟩ := h
      have hr : s.resetLink.rstLow = s.rstLow := by simp [State.resetLink, s.freeAllSlots_same.rstLow]
      obtain ⟨-, hidle⟩ := hrst (hr ▸ hlow)
      exact absurd hidle ht
    | goOnline n hr hl h1 h2 => exact h.goOnline hr hl h1 h2
    | setMgmt mg hm =>
      obtain ⟨huse, hmax, hon, hep, hrst⟩ := h
      refine ⟨huse, hmax, hon, hep, fun hlow => ?_⟩
      obtain ⟨hl, hidle⟩ := hrst hlow
      exact ⟨hl, hm hlow hidle⟩
    | accept p m rest =>
      have hd := State.accept_sameButDue (s.modPort p (fun po => { po with reqOffers := rest })) p m
      exact h.of_stay hs (State.accept_link _ p m) hd.rstLow hd.mgmt
    | grant t p e rest i => exact absurd hissues (by simp [State.issuesSent_grantMove])
    | clearGroup g => cases g <;> exact h.of_stay hs rfl rfl rfl
    | _ => exact h.of_stay hs rfl rfl rfl
  · exact h.grantMove hw (by simpa using List.find?_some hi)

/-- Settles O56: every move keeps both; a slot is taken only on a credit, and the credits go only when every slot is freed. -/
theorem slotsAndLinkStayTogether : Obligations.SlotsAndLinkStayTogether := fun _ _ hc hl e =>
  ⟨step_keeps (fun _ _ m => m.keeps_slotsClean) (fun _ _ h => h) hc e,
    step_keeps (fun _ _ m => m.keeps_linkSound) (fun _ _ h => h) hl e⟩

end Sys2Proof.Machine
end

section
/-! SUPPORT. The slots across a step: only GRANT takes a slot into use, one slot, and the ordering guard of its entry was clear;
so guarded slots stay apart (R49, R53, R59, R76, R77). -/

namespace Sys2Proof.Machine

/-! ### What sends no ISSUE -/

/-- Along a chain of moves ISSUEs are only sent, and where none is sent the slots stay. -/
theorem Moves.quiet_of_issues {s t : State} (m : Moves s t) :
    s.issuesSent ≤ t.issuesSent ∧ (t.issuesSent = s.issuesSent → s.SlotsStay t) := by
  induction m with
  | refl => exact ⟨Nat.le_refl _, fun _ => .refl s⟩
  | tail _ hm ih =>
    obtain ⟨hle, hstay⟩ := ih
    rcases hm.quiet_or_grant with hq | ⟨tier, p, e, rest, i, -, -, -, rfl⟩
    · rw [hq.issues]
      exact ⟨hle, fun h => (hstay h).trans hq.slots⟩
    · rw [State.issuesSent_grantMove]
      exact ⟨by omega, fun h => by omega⟩

theorem Moves.slotsStay {s t : State} (m : Moves s t) (h : t.issuesSent = s.issuesSent) : s.SlotsStay t :=
  m.quiet_of_issues.2 h

/-- The end of an event takes no slot into use. -/
theorem State.finish_slotsStay (s : State) : s.SlotsStay s.finish :=
  (finish_moves .refl).slotsStay (State.issuesSent_congr s.finish_sameButDue.mlDn)

theorem State.lateReply_mlDn (s : State) (i : SlotId) : (s.lateReply i).mlDn = s.mlDn := by
  simp only [State.lateReply]
  split <;> rfl

theorem State.completeSlot_mlDn (s : State) (i : SlotId) (sl : Slot) (bad : Bool) (k : CheckKind) :
    (s.completeSlot i sl bad k).mlDn = s.mlDn := by
  cases bad <;> rfl

theorem State.forwardUnit_mlDn (s : State) (sl : Slot) (x : UnitIndex) (d : UnitData) (g : Integrity) :
    (s.forwardUnit sl x d g).mlDn = s.mlDn := by
  simp only [State.forwardUnit]
  split <;> rfl

theorem State.owedUnit_mlDn (s : State) (i : SlotId) (x : UnitIndex) (d : UnitData) (g : Integrity) :
    (s.owedUnit i x d g).mlDn = s.mlDn := by
  simp only [State.owedUnit]
  split
  · rw [State.completeSlot_mlDn, State.forwardUnit_mlDn]
  · rw [State.setSlot_mlDn, State.forwardUnit_mlDn]

theorem State.takeReadUnit_mlDn (s : State) (i : SlotId) (x : UnitIndex) (d : UnitData) (g : Integrity) :
    (s.takeReadUnit i x d g).mlDn = s.mlDn := by
  have hlive : (if (s.slot i).detached then
      if ((s.slot i).receive x).allReceived then s.freeSlot i else s.setSlot i { (s.slot i).receive x with state := .returning }
      else s.owedUnit i x d g).mlDn = s.mlDn := by
    split
    · split <;> rfl
    · exact s.owedUnit_mlDn i x d g
  simp only [State.takeReadUnit]
  split
  · rfl
  · split
    · split
      · exact s.lateReply_mlDn i
      · rfl
    all_goals exact hlive

theorem State.takeWriteDone_mlDn (s : State) (i : SlotId) (bad : Bool) : (s.takeWriteDone i bad).mlDn = s.mlDn := by
  have hlive : (if (s.slot i).detached then s.freeSlot i else s.completeSlot i (s.slot i) bad .memWriteFailed).mlDn
      = s.mlDn := by
    split
    · rfl
    · exact s.completeSlot_mlDn i _ bad _
  simp only [State.takeWriteDone]
  split
  · rfl
  · split
    · exact s.lateReply_mlDn i
    all_goals exact hlive

theorem State.retireIf_mlDn (s : State) (p : PortId) (st : DoneStatus) : (s.retireIf p st).mlDn = s.mlDn := by
  unfold State.retireIf
  split
  · exact (s.retire_sameButDue p st).mlDn
  · rfl

theorem State.portReset_mlDn (s : State) (p : PortId) (w : Bool) : (s.portReset p w).mlDn = s.mlDn :=
  (State.release_same _ p _).mlDn

theorem State.setMode_mlDn (s : State) (target : Byte) : (s.setMode target).state.mlDn = s.mlDn := by
  have hadm : ∀ m : Mode, (s.setAdmitting m).state.mlDn = s.mlDn := fun m => by
    unfold State.setAdmitting
    split
    · rfl
    · exact (State.finish_sameButDue _).mlDn
  have hdrain : { s with mode := .draining }.examineDrain.mlDn = s.mlDn := by
    unfold State.examineDrain
    split <;> rfl
  unfold State.setMode
  split
  · exact hadm _
  · exact hadm _
  · unfold State.setDrain
    split
    · exact hdrain
    · exact hdrain
    · rfl
    · rfl
  · rfl

theorem onFrame_issuesSent {s : State} {cmd : List Byte} {len : Nat} {f : State → Answer}
    (h : (f s).state.issuesSent = s.issuesSent) : (s.onFrame cmd len f).issuesSent = s.issuesSent := by
  unfold State.onFrame
  split
  · exact h
  · rfl

theorem onCommand_issuesSent {s : State} {c : Instr} {f : State → Answer} (h : (f s).state.issuesSent = s.issuesSent) :
    (s.onCommand c f).issuesSent = s.issuesSent := onFrame_issuesSent h

theorem ite_issuesSent {c : Prop} [Decidable c] {n : Nat} {s t : State} (hs : s.issuesSent = n) (ht : t.issuesSent = n) :
    (if c then s else t).issuesSent = n := by
  split
  · exact hs
  · exact ht

/-- No command but GRANT sends an ISSUE (R59, R88). -/
theorem exec_issuesSent {c : Instr} {s t : State} (hc : c ≠ .grant) (e : exec c s = .next t) :
    t.issuesSent = s.issuesSent := by
  have done : ∀ {u : State}, exec c s = .next u → u.issuesSent = s.issuesSent → t.issuesSent = s.issuesSent := by
    intro u hu hm
    rw [e] at hu
    cases hu
    exact hm
  have fin : ∀ {u : State}, u.mlDn = s.mlDn → u.finish.issuesSent = s.issuesSent := fun h =>
    State.issuesSent_congr ((State.finish_sameButDue _).mlDn.trans h)
  have taken : ∀ {b : Prop} [Decidable b] {u v : State}, u.mlDn = s.mlDn → v.mlDn = s.mlDn →
      (if b then u else v).mlDn = s.mlDn := fun hu hv => by
    split
    · exact hu
    · exact hv
  cases c with
  | grant => exact absurd rfl hc
  | fullReset w => exact done rfl rfl
  | rstNRelease =>
    refine done rfl (ite_issuesSent ?_ rfl)
    exact State.issuesSent_restart (s.releaseRst.finish_sameButDue.mlDn.trans rfl)
  | portReset p w => exact done rfl (ite_issuesSent rfl (fin (s.portReset_mlDn p w)))
  | portResetRelease p => exact done rfl (ite_issuesSent (fin rfl) rfl)
  | request p m => exact done rfl (fin (taken (State.takeOfferedRequest_sameButDue (s.offerRequest p m) p).mlDn rfl))
  | writeUnit p u => exact done rfl (fin (taken (State.takeOfferedUnit_sameButDue (s.offerUnit p u) p).mlDn rfl))
  | tick k => exact done rfl (ite_issuesSent rfl (ite_issuesSent rfl (fin rfl)))
  | urgentMark p => exact done rfl (fin (taken rfl rfl))
  | responseTimeout i => exact done rfl (fin (taken rfl rfl))
  | detachedTimeout i => exact done rfl (fin (taken rfl rfl))
  | orphanLimitExpiry i =>
    refine done rfl (ite_issuesSent (State.issuesSent_congr ?_) (fin rfl))
    exact s.linkFail.settle_sameButDue.mlDn.trans s.linkFail_sameButDue.mlDn
  | retireRefused p => exact done rfl (fin (s.retireIf_mlDn p _))
  | retireDataerr p => exact done rfl (fin (s.retireIf_mlDn p _))
  | retireFence p => exact done rfl (fin (s.retireIf_mlDn p _))
  | failFast p => exact done rfl (fin (s.retireIf_mlDn p _))
  | drainComplete => exact done rfl (fin (taken rfl rfl))
  | advertise e n => exact done rfl (ite_issuesSent rfl (ite_issuesSent rfl (ite_issuesSent rfl rfl)))
  | readUnit e i x d g =>
    exact done rfl (ite_issuesSent rfl (ite_issuesSent rfl (ite_issuesSent rfl (fin (s.takeReadUnit_mlDn i x d g)))))
  | writeDone e i o =>
    exact done rfl (ite_issuesSent rfl (ite_issuesSent rfl (ite_issuesSent rfl (fin (s.takeWriteDone_mlDn i _)))))
  | unknownLinkMessage => exact done rfl (ite_issuesSent rfl rfl)
  | csNFall => exact done rfl (ite_issuesSent rfl rfl)
  | csNRise k => exact done rfl (ite_issuesSent rfl rfl)
  | badFrame a b pl ck => exact done rfl (ite_issuesSent rfl (onFrame_issuesSent rfl))
  | unknownCommand a b => exact done rfl (ite_issuesSent rfl (onCommand_issuesSent rfl))
  | readIdent x => exact done rfl (onCommand_issuesSent rfl)
  | readStatus x => exact done rfl (onCommand_issuesSent rfl)
  | readTiming x => exact done rfl (onCommand_issuesSent rfl)
  | readCheckRecord x => exact done rfl (onCommand_issuesSent rfl)
  | readRegion x => exact done rfl (onCommand_issuesSent (by split <;> rfl))
  | readAccount x => exact done rfl (onCommand_issuesSent (by split <;> rfl))
  | readPort x => exact done rfl (onCommand_issuesSent (by split <;> rfl))
  | readCounters x g => exact done rfl (onCommand_issuesSent (by split <;> rfl))
  | readSlot x => exact done rfl (onCommand_issuesSent (by split <;> rfl))
  | writeRegion x pl => exact done rfl (onCommand_issuesSent (by split <;> [rfl; split <;> rfl]))
  | writeAccount x pl => exact done rfl (onCommand_issuesSent (by split <;> [rfl; split <;> rfl]))
  | writePort x pl => exact done rfl (onCommand_issuesSent (by split <;> [rfl; split <;> [rfl; split <;> rfl]]))
  | writeTiming x pl => exact done rfl (onCommand_issuesSent (by split <;> [rfl; split <;> rfl]))
  | setModePass x g => exact done rfl (onCommand_issuesSent (State.issuesSent_congr (s.setMode_mlDn g)))
  | setModeRegulate x => exact done rfl (onCommand_issuesSent (State.issuesSent_congr (s.setMode_mlDn 1)))
  | setModeDrain x => exact done rfl (onCommand_issuesSent (State.issuesSent_congr (s.setMode_mlDn 2)))
  | resetLink x =>
    refine done rfl (onCommand_issuesSent ?_)
    exact State.issuesSent_restart (s.resetLink.settle_sameButDue.mlDn.trans s.resetLink_mlDn)
  | clearChecks x pl => exact done rfl (onCommand_issuesSent (by split <;> rfl))
  | clearCounters x g => exact done rfl (onCommand_issuesSent (by split <;> [rfl; (next g _ => cases g <;> rfl)]))
  | setAlertMask x m => exact done rfl (onCommand_issuesSent (by split <;> rfl))
  | ackAlert x m => exact done rfl (onCommand_issuesSent (by split <;> rfl))

/-! ### The slots across a step -/

/-- What a step does to the slots: they stay, or one of them is taken by a grant and they stay from there on. -/
inductive State.SlotStep (s t : State) : Prop where
  | stay (h : s.SlotsStay t)
  /-- FREE slot `i` is granted to the entry `e` of port `p`, whose guard is off or clear (R53, R59). -/
  | grant (p : PortId) (e : Entry) (i : SlotId) (hfree : (s.slots.row i).busy = false) (hclear : s.guardClear e = true)
      (h : (s.setSlot i (s.slotFor p e)).SlotsStay t)

theorem arbitrate_slotStep (s : State) : s.SlotStep s.arbitrate := by
  unfold State.arbitrate
  split
  · next tier p i hw hi =>
    split
    · next e rest hq =>
      obtain ⟨e', rest', hq', -, -, -, -, hclear, -⟩ := State.eligibleTier_eq_some_iff.mp (State.winner_eligible hw)
      obtain ⟨rfl, rfl⟩ := List.cons.inj (hq.symm.trans hq')
      refine .grant p e i (by simpa using List.find?_some hi) hclear (.of_slots ?_)
      rw [State.grantHead_eq, (State.release_same _ p _).slots, State.setSlot_slots]
    · exact .stay (.refl s)
  · exact .stay (.refl s)

theorem State.SlotStep.trans {s t u : State} (h : s.SlotStep t) (k : t.SlotsStay u) : s.SlotStep u := by
  cases h with
  | stay h => exact .stay (h.trans k)
  | grant p e i hfree hclear h => exact .grant p e i hfree hclear (h.trans k)

theorem exec_slotStep {c : Instr} {s t : State} (e : exec c s = .next t) : s.SlotStep t := by
  by_cases hc : c = .grant
  · subst hc
    cases e
    exact (arbitrate_slotStep s).trans s.arbitrate.finish_slotsStay
  · exact .stay ((exec_moves e).slotsStay (exec_issuesSent hc e))

theorem step_slotStep {s t : State} (e : step s = .next t) : s.SlotStep t := by
  unfold step at e
  split at e
  · cases e
    exact .stay (.refl s)
  · cases exec_slotStep e with
    | stay h => exact .stay h
    | grant p e i hfree hclear h => exact .grant p e i hfree hclear h

/-- A slot in use after a step was in use before it with the same grant, or was FREE and granted to an entry whose guard is off or
clear of all the others. -/
theorem State.SlotStep.used {s t : State} (h : s.SlotStep t) {j : SlotId} (hj : (t.slots.row j).busy = true) :
    (s.slots.row j).busy = true ∧ (s.slots.row j).SameGrant (t.slots.row j)
      ∨ (s.slots.row j).busy = false ∧ ∃ p e, s.guardClear e = true ∧ (s.slotFor p e).SameGrant (t.slots.row j)
        ∧ ∀ k, k ≠ j → (t.slots.row k).busy = true →
            (s.slots.row k).busy = true ∧ (s.slots.row k).SameGrant (t.slots.row k) := by
  cases h with
  | stay h => exact .inl ((h j).used hj)
  | grant p e i hfree hclear h =>
    have hother : ∀ k, k ≠ i → (t.slots.row k).busy = true →
        (s.slots.row k).busy = true ∧ (s.slots.row k).SameGrant (t.slots.row k) := fun k hk hb => by
      have hkeep := (h k).used hb
      rwa [State.setSlot_slots, Tab.row_setRow_ne _ hk] at hkeep
    by_cases hji : j = i
    · subst hji
      obtain ⟨-, hg⟩ := (h j).used hj
      rw [State.setSlot_slots, Tab.row_setRow_self] at hg
      exact .inr ⟨hfree, p, e, hclear, hg, hother⟩
    · exact .inl (hother j hji hj)

/-! ### Slots apart (R76, R77) -/

/-- Where the two ranges overlap, both slots are reads (R76). -/
def Slot.Apart (x y : Slot) : Prop :=
  x.addr.toNat ≤ y.addr.toNat + 32 * y.len - 1 → y.addr.toNat ≤ x.addr.toNat + 32 * x.len - 1 → x.dir = .read ∧ y.dir = .read

theorem Slot.Apart.symm {x y : Slot} (h : x.Apart y) : y.Apart x := fun h1 h2 => (h h2 h1).symm

theorem Slot.Apart.of_sameGrant {x y x' y' : Slot} (h : x.Apart y) (hx : x.SameGrant x') (hy : y.SameGrant y') :
    x'.Apart y' := by
  unfold Slot.Apart
  rw [hx.addr, hx.len, hx.dir, hy.addr, hy.len, hy.dir]
  exact h

theorem guardedApart_iff {s : State} :
    GuardedApart s ↔ ∀ i j, i ≠ j → (s.slots.row i).busy = true → (s.slots.row j).busy = true →
      (s.slots.row i).guard = true → (s.slots.row j).guard = true → (s.slots.row i).Apart (s.slots.row j) := Iff.rfl

/-- A guarded entry whose guard is clear is granted apart from every slot in use (R53, R76). -/
theorem State.apart_of_guardClear {s : State} {e : Entry} (hclear : s.guardClear e = true) (hguard : e.guard = true) (p : PortId)
    {j : SlotId} (hj : (s.slots.row j).busy = true) : (s.slotFor p e).Apart (s.slots.row j) := by
  intro h1 h2
  have hno := Slot.not_conflicts_iff.mp (State.guardClear_iff.mp hclear hguard j)
  obtain ⟨hread, hkind⟩ := hno (Slot.busy_iff.mp hj) h2 h1
  refine ⟨?_, hread⟩
  calc (s.slotFor p e).dir = dirOf e.kind := rfl
    _ = .read := by rw [dirOf_eq, if_neg hkind]

/-- A slot that a step takes into use under the guard is apart from every slot in use (R77). -/
theorem State.SlotStep.taken_apart {s t : State} (h : s.SlotStep t) {i j : SlotId} (hij : i ≠ j)
    (hfree : (s.slots.row i).busy = false) (hi : (t.slots.row i).busy = true) (hguard : (t.slots.row i).guard = true)
    (hj : (t.slots.row j).busy = true) : (t.slots.row i).Apart (t.slots.row j) := by
  rcases h.used hi with ⟨hbusy, -⟩ | ⟨-, p, e, hclear, hnew, hother⟩
  · rw [hfree] at hbusy
    cases hbusy
  · obtain ⟨hjs, hold⟩ := hother j hij.symm hj
    exact (State.apart_of_guardClear hclear (hnew.guard.symm.trans hguard) p hjs).of_sameGrant hnew hold

/-- A slot in use before and after a step keeps its grant (R77). -/
theorem State.SlotStep.sameGrant {s t : State} (h : s.SlotStep t) {i : SlotId} (hs : (s.slots.row i).busy = true)
    (ht : (t.slots.row i).busy = true) : (s.slots.row i).SameGrant (t.slots.row i) := by
  rcases h.used ht with ⟨-, hg⟩ | ⟨hfree, -⟩
  · exact hg
  · rw [hs] at hfree
    cases hfree

/-- Of two guarded slots both were there before the step, or one of them is the one taken. -/
theorem GuardedApart.of_slotStep {s t : State} (hs : GuardedApart s) (h : s.SlotStep t) : GuardedApart t := by
  refine guardedApart_iff.mpr fun i j hij hi hj hgi hgj => ?_
  cases hsi : (s.slots.row i).busy with
  | false => exact h.taken_apart hij hsi hi hgi hj
  | true =>
    cases hsj : (s.slots.row j).busy with
    | false => exact (h.taken_apart hij.symm hsj hj hgj hi).symm
    | true =>
      have hki := h.sameGrant hsi hi
      have hkj := h.sameGrant hsj hj
      exact (guardedApart_iff.mp hs i j hij hsi hsj (hki.guard.symm.trans hgi) (hkj.guard.symm.trans hgj)).of_sameGrant hki hkj

/-- Settles O58: a step takes at most one slot, and the guard of the entry it takes it for is off or clear. -/
theorem guardedSlotsStayApart : Obligations.GuardedSlotsStayApart := by
  intro s t hstep
  have h := step_slotStep hstep
  refine ⟨fun _ hs => hs.of_slotStep h, fun i j hij hfree hi hguard hj => ?_, fun i hs ht => ?_⟩
  · have hnot : (s.slots.row i).busy = false := by simpa [Slot.busy] using hfree
    exact h.taken_apart hij hnot (Slot.busy_iff.mpr hi) hguard (Slot.busy_iff.mpr hj)
  · have hg := h.sameGrant (Slot.busy_iff.mpr hs) (Slot.busy_iff.mpr ht)
    exact ⟨hg.addr, hg.len, hg.dir, hg.guard⟩

end Sys2Proof.Machine
end

section
/-! SUPPORT. Every slot freed: what each port is answered, and the link failure, RESET LINK and port reset that free or detach
slots (R68, R82 to R84, R98 to R102, R125). -/

namespace Sys2Proof.Machine

/-! ### One port's answers (R84) -/

/-- The port after the DONE ABORTED of a slot that owes it an answer (R84). -/
def Port.abort (po : Port) (sl : Slot) : Port := ((po.done sl.tag .aborted).unowe sl.dir).countDone .aborted

theorem Port.abort_owed (po : Port) (sl : Slot) (d : Dir) : (po.abort sl).owed d = po.owed d - if sl.dir = d then 1 else 0 :=
  po.owed_answer sl.tag .aborted sl.dir d

theorem Port.abort_counters (po : Port) (sl : Slot) :
    (po.abort sl).counters = { po.counters with aborted := po.counters.aborted + 1 } := by
  unfold Port.abort
  cases sl.dir <;> rfl

@[simp] theorem Port.abort_rsp (po : Port) (sl : Slot) : (po.abort sl).rsp = po.rsp ++ [.done sl.tag .aborted] := by
  simp [Port.abort]

@[simp] theorem Port.abort_tags (po : Port) (sl : Slot) : (po.abort sl).tags = po.tags.setRow sl.tag false := by
  simp [Port.abort]

/-- The DONEs leave in the order of the slots (R84). -/
theorem Port.foldl_abort_rsp (l : List Slot) (po : Port) :
    (l.foldl Port.abort po).rsp = po.rsp ++ l.map (fun sl => .done sl.tag .aborted) := by
  induction l generalizing po with
  | nil => simp
  | cons sl l ih => simp [ih]

/-- The owed count of a kind falls by the slots of that kind (R122). -/
theorem Port.foldl_abort_owed (l : List Slot) (d : Dir) (po : Port) :
    (l.foldl Port.abort po).owed d = po.owed d - (l.filter (fun sl => sl.dir == d)).length := by
  induction l generalizing po with
  | nil => simp
  | cons sl l ih =>
    rw [List.foldl_cons, ih, Port.abort_owed, List.filter_cons]
    by_cases h : sl.dir = d
    · simp only [h, if_true, beq_self_eq_true, List.length_cons]
      omega
    · simp [h]

/-- The tags answered leave the set (R121). -/
theorem Port.foldl_abort_tags (l : List Slot) (t : Tag) (po : Port) :
    (l.foldl Port.abort po).tags.row t = (po.tags.row t && !l.any (fun sl => sl.tag == t)) := by
  induction l generalizing po with
  | nil => simp
  | cons sl l ih =>
    rw [List.foldl_cons, ih, Port.abort_tags, Tab.row_setRow, List.any_cons]
    by_cases h : t = sl.tag
    · simp [h]
    · have hne : (sl.tag == t) = false := by simpa using Ne.symm h
      simp [h, hne]

/-- Each DONE counts as aborted (R124). -/
theorem Port.foldl_abort_counters (l : List Slot) (po : Port) :
    (l.foldl Port.abort po).counters
      = { po.counters with aborted := po.counters.aborted + BitVec.ofNat 32 l.length } := by
  induction l generalizing po with
  | nil => simp
  | cons sl l ih =>
    rw [List.foldl_cons, ih, Port.abort_counters, List.length_cons, BitVec.ofNat_add, BitVec.add_comm (BitVec.ofNat 32 _),
      ← BitVec.add_assoc]
    rfl

/-! ### Every slot freed (R84) -/

/-- The slot owes port `p` an answer, of either kind (R65). -/
def Slot.owesPort (sl : Slot) (p : PortId) : Bool := sl.owes && sl.port == p

theorem State.abortSlot_ports (s : State) (i : SlotId) (p : PortId) :
    (s.abortSlot i).ports.row p
      = if (s.slots.row i).owesPort p then (s.ports.row p).abort (s.slots.row i) else s.ports.row p := by
  unfold State.abortSlot Slot.owesPort
  by_cases ho : (s.slots.row i).owes = true
  · by_cases hp : p = (s.slots.row i).port
    · subst hp
      simp [ho, Port.abort]
    · simp [ho, hp, Ne.symm hp]
  · simp [ho]

/-- Slots freed one after the other: the port takes the answers of those that owe it one, in their order (R84). -/
theorem State.foldl_abortSlot_ports (p : PortId) {l : List SlotId} (hl : l.Nodup) (s : State) :
    (l.foldl State.abortSlot s).ports.row p
      = ((l.map s.slots.row).filter (·.owesPort p)).foldl Port.abort (s.ports.row p) := by
  induction l generalizing s with
  | nil => rfl
  | cons i l ih =>
    obtain ⟨hi, hl⟩ := List.nodup_cons.mp hl
    have hrest : l.map (s.abortSlot i).slots.row = l.map s.slots.row := List.map_congr_left fun j hj => by
      rw [State.abortSlot_slots, Tab.row_setRow_ne _ (ne_of_mem_of_not_mem hj hi)]
    rw [List.foldl_cons, ih hl, hrest, State.abortSlot_ports, List.map_cons, List.filter_cons]
    split <;> rfl

/-- What the freeing of every slot does to a port (R84). -/
theorem State.freeAllSlots_ports (s : State) (p : PortId) :
    s.freeAllSlots.ports.row p
      = ((allSlots.filter (fun i => (s.slots.row i).owesPort p)).map s.slots.row).foldl Port.abort (s.ports.row p) := by
  have hnodup : allSlots.Nodup := List.nodup_finRange 32
  rw [State.freeAllSlots, State.foldl_abortSlot_ports p hnodup, List.filter_map]
  rfl

/-- Settles O26: the port takes the DONEs of its slots in their order, and each of its fields follows. -/
theorem freeingEverySlotAnswersTheOwed : Obligations.FreeingEverySlotAnswersTheOwed := by
  intro s p owed t
  have hport : t.ports.row p = (owed.map s.slots.row).foldl Port.abort (s.ports.row p) := s.freeAllSlots_ports p
  have howed : ∀ d, (t.ports.row p).owed d
      = (s.ports.row p).owed d - (owed.filter (fun i => (s.slots.row i).dir == d)).length := fun d => by
    rw [hport, Port.foldl_abort_owed, List.filter_map, List.length_map]
    rfl
  have hsame := s.freeAllSlots_same
  refine ⟨s.freeAllSlots_slots, ?_, howed .read, howed .write, fun tag => ?_, ?_, hsame.queue p, hsame.list p, hsame.chk,
    hsame.buffer, hsame.accounts, hsame.mlDn, hsame.mode, hsame.link⟩
  · rw [State.port_eq, hport, Port.foldl_abort_rsp, List.map_map]
    rfl
  · rw [State.port_eq, hport, Port.foldl_abort_tags, List.any_map]
    rfl
  · rw [State.port_eq, hport, Port.foldl_abort_counters, List.length_map]
    rfl

/-! ### The link fails (R98, R100) -/

theorem State.abortSlot_withLink (s : State) (k : Link) (i : SlotId) :
    { s with link := k }.abortSlot i = { s.abortSlot i with link := k } := by
  unfold State.abortSlot
  simp only [State.slot_eq]
  split <;> rfl

theorem State.foldl_abortSlot_withLink (l : List SlotId) (k : Link) (s : State) :
    l.foldl State.abortSlot { s with link := k } = { l.foldl State.abortSlot s with link := k } := by
  induction l generalizing s with
  | nil => rfl
  | cons i l ih => rw [List.foldl_cons, State.abortSlot_withLink, ih, List.foldl_cons]

/-- Freeing every slot does not look at the link. -/
theorem State.freeAllSlots_withLink (s : State) (k : Link) :
    { s with link := k }.freeAllSlots = { s.freeAllSlots with link := k } := by
  unfold State.freeAllSlots
  exact State.foldl_abortSlot_withLink allSlots k s

/-- The failure of the link as one update of the state: LINK_FAILED is always recorded (R130). -/
theorem State.linkFail_eq (s : State) :
    s.linkFail
      = { s.freeAllSlots with
          link := { state := .failed, epoch := s.link.epoch + 1, advertised := 0 }
          chk := { s.chk.raise .all (plainCapture .linkFailed s.ticks.stamp) with
                    pending := { s.chk.pending with check := true, linkFailed := true } } } := by
  have hsame := s.freeAllSlots_same
  unfold State.linkFail
  simp only [State.freeAllSlots_withLink]
  rw [← hsame.chk, ← hsame.ticks]
  generalize s.freeAllSlots = u
  rfl

theorem exec_orphanLimitExpiry_due {i : SlotId} {s : State} (h : s.expiryIsDue i = true) :
    exec (.orphanLimitExpiry i) s = .next s.linkFail.settle := congrArg Host.Outcome.next (if_pos h)

/-- Settles O25: the expiry is due, and the link failure it makes is one update of the state. -/
theorem orphanLimitExpiryFailsTheLink : Obligations.OrphanLimitExpiryFailsTheLink := by
  intro i s hdue hstate
  have hexp : s.expiryIsDue i = true := by rw [State.expiryIsDue, hdue, hstate]; rfl
  exact ⟨s.linkFail, exec_orphanLimitExpiry_due hexp, s.linkFail_eq, s.linkFail_sameButDue.mlDn⟩

/-! ### RESET LINK (R102) -/

/-- RESET LINK as one update of the state, without the retirements it makes due. -/
theorem State.resetLink_eq (s : State) :
    s.resetLink
      = { s.freeAllSlots with
          link := { state := .waitCredit, epoch := s.link.epoch + 1, advertised := 0 }
          mlDn := s.mlDn ++ [.restart (s.link.epoch + 1)] } := by
  have hsame := s.freeAllSlots_same
  unfold State.resetLink
  rw [← hsame.link, ← hsame.mlDn]
  generalize s.freeAllSlots = u
  rfl

/-- Settles O49: the awaited command is answered OK after its one update. -/
theorem resetLinkRestartsTheLink : Obligations.ResetLinkRestartsTheLink := by
  intro x s h
  have hexec : exec (.resetLink x) s = .next (s.resetLink.settle.answered (.resetLink x) .ok []) :=
    congrArg Host.Outcome.next (State.onCommand_did h rfl)
  rw [hexec, State.resetLink_eq]

/-! ### Port reset (R83, R125) -/

theorem Slot.portReset_eq (sl : Slot) (p : PortId) :
    sl.portReset p = if sl.state ≠ .free ∧ sl.port = p then { sl with detached := true } else sl := by
  simp [Slot.portReset, Slot.busy]

@[simp] theorem BufCounts.release_all (b : BufCounts) : b.release (b.reserve + b.shared) = { reserve := 0, shared := 0 } := by
  simp [BufCounts.release]

/-- A port with no record is given back no unit when the waiting units are offered again: its counts are 0 once all its units
are released (R120). -/
theorem State.release_all_bufCounts {s : State} {p : PortId} (hl : (s.ports.row p).list = []) :
    (s.release p ((s.bufCounts p).reserve + (s.bufCounts p).shared)).buffer.row p = { reserve := 0, shared := 0 } := by
  obtain ⟨hbuf, -⟩ := State.release_keeps (s := s) (p := p) (n := (s.bufCounts p).reserve + (s.bufCounts p).shared)
    (P := fun u => u.buffer.row p = { reserve := 0, shared := 0 } ∧ (u.ports.row p).list = []) ⟨by simp, hl⟩
    fun u q w ws r rs hc ⟨hb, hn⟩ => by
      have hq : p ≠ q := by
        rintro rfl
        rw [hc.records] at hn
        cases hn
      exact ⟨by simpa [State.storeUnit, hq] using hb, by simpa [State.storeUnit, hq] using hn⟩
  exact hbuf

theorem exec_portReset_eq {p : PortId} {w : Bool} {s : State} (h : (s.port p).resetLow = false) :
    exec (.portReset p w) s = .next (s.portReset p w).finish := congrArg Host.Outcome.next (if_neg (by rw [h]; simp))

/-- Settles O8: the reset is one update and a release of all the port's units, none of which it is given again. -/
theorem portResetDropsThePortsWork : Obligations.PortResetDropsThePortsWork := by
  intro p w s t hlow ht
  have hreset : s.portReset p w = t := by
    rw [ht, State.portReset, funext fun sl => Slot.portReset_eq sl p]
    rfl
  refine ⟨by rw [exec_portReset_eq hlow, hreset], ?_⟩
  rw [ht, State.bufCounts_eq]
  exact State.release_all_bufCounts (by simp)

end Sys2Proof.Machine
end

section
/-! SUPPORT. The timeouts of a slot and the replies from memory, case by case: what does not fit, what an owed slot forwards and
answers, and what an orphaned or detached slot discards (R69 to R75, R80, R81, R89). -/

namespace Sys2Proof

/-- One more row is set. -/
theorem Tab.count_setRow_true {n : Nat} {t : Tab n Bool} {i : Fin n} (h : t.row i = false) :
    (t.setRow i true).toList.count true = t.toList.count true + 1 := by
  have hn := Tab.count_setRow t i true (· == true)
  simpa [h, List.count, List.countP_eq_length_filter] using hn

end Sys2Proof

namespace Sys2Proof.Machine

/-! ### Timeouts (R80, R81) -/

/-- A slot that is ISSUED or RETURNING is in use. -/
theorem Slot.used_of_live {sl : Slot} (h : sl.state = .issued ∨ sl.state = .returning) : sl.state ≠ .free := by
  rcases h with h | h <;> rw [h] <;> nofun

/-- It owes an answer unless it is detached (R65). -/
theorem Slot.owes_of_live {sl : Slot} (h : sl.state = .issued ∨ sl.state = .returning) (hd : sl.detached = false) :
    sl.owes = true := by
  rcases h with h | h <;> simp [Slot.owes, h, hd]

theorem exec_responseTimeout_due {i : SlotId} {s : State} (h : s.timeoutIsDue i = true) :
    exec (.responseTimeout i) s = .next (s.timeoutSlot i).finish :=
  congrArg (fun t => Host.Outcome.next (State.finish t)) (if_pos h)

theorem exec_detachedTimeout_due {i : SlotId} {s : State} (h : s.detachedIsDue i = true) :
    exec (.detachedTimeout i) s = .next (s.orphanSlot i).finish :=
  congrArg (fun t => Host.Outcome.next (State.finish t)) (if_pos h)

theorem Port.unowe_eq (po : Port) (d : Dir) :
    po.unowe d
      = { po with owedReads := if d = .read then po.owedReads - 1 else po.owedReads
                  owedWrites := if d = .write then po.owedWrites - 1 else po.owedWrites } := by
  cases d <;> rfl

/-- Settles O23: the timeout is due, and it is the answer, the check and the orphaned slot. -/
theorem responseTimeoutOrphansTheSlot : Obligations.ResponseTimeoutOrphansTheSlot := by
  rintro i s sl rfl hdue hdet hstate
  have howes : s.timeoutIsDue i = true := by rw [State.timeoutIsDue, hdue, Slot.owes_of_live hstate hdet]; rfl
  rw [exec_responseTimeout_due howes]
  simp only [State.timeoutSlot, State.answerSlot, Port.unowe_eq]
  rfl

/-- Settles O24: the timeout is due, and it orphans the slot alone. -/
theorem detachedTimeoutIsSilent : Obligations.DetachedTimeoutIsSilent := by
  rintro i s sl rfl hdue hdet hstate
  have hdetached : s.detachedIsDue i = true := by
    rcases hstate with h | h <;> rw [State.detachedIsDue, hdue, hdet, h] <;> rfl
  rw [exec_detachedTimeout_due hdetached]
  rfl

/-! ### Messages on ML_UP (R69, R89, R90) -/

section
variable {s : State} {i : SlotId} {x : UnitIndex} {d : UnitData} {g : Integrity} {o : WriteOutcome}

theorem exec_unknownLinkMessage (hr : s.rstLow = false) : exec .unknownLinkMessage s = .next s.linkProtocol :=
  congrArg Host.Outcome.next (if_neg (by simp [hr]))

/-- A code that names nothing (R89). -/
theorem exec_readUnit_unnamed (hr : s.rstLow = false) :
    exec (.readUnit s.link.epoch i x d .unnamed) s = .next s.linkProtocol :=
  congrArg Host.Outcome.next ((if_neg (by simp [hr])).trans ((if_neg (by simp)).trans (if_pos rfl)))

theorem exec_writeDone_unnamed (hr : s.rstLow = false) :
    exec (.writeDone s.link.epoch i .unnamed) s = .next s.linkProtocol :=
  congrArg Host.Outcome.next ((if_neg (by simp [hr])).trans ((if_neg (by simp)).trans (if_pos rfl)))

/-- A reply of the current epoch is the slot controller's (R90). -/
theorem exec_readUnit_current (hr : s.rstLow = false) (hg : g ≠ .unnamed) :
    exec (.readUnit s.link.epoch i x d g) s = .next (s.takeReadUnit i x d g).finish :=
  congrArg Host.Outcome.next ((if_neg (by simp [hr])).trans ((if_neg (by simp)).trans (if_neg hg)))

theorem exec_writeDone_current (hr : s.rstLow = false) (ho : o ≠ .unnamed) :
    exec (.writeDone s.link.epoch i o) s = .next (s.takeWriteDone i (o == .failed)).finish :=
  congrArg Host.Outcome.next ((if_neg (by simp [hr])).trans ((if_neg (by simp)).trans (if_neg ho)))

end

/-! ### What fits (R69, R72) -/

/-- The reply is of the kind of a slot in use (R69). -/
theorem Slot.misfits_iff {sl : Slot} {d : Dir} : sl.misfits d = true ↔ sl.state = .free ∨ sl.dir ≠ d := by
  simp [Slot.misfits, Slot.busy]

theorem Slot.misfitsUnit_iff {sl : Slot} {x : UnitIndex} :
    sl.misfitsUnit x = true
      ↔ sl.state = .free ∨ sl.dir = .write ∨ sl.len ≤ x.val ∨ sl.received.row x = true := by
  have hdir : sl.dir ≠ .read ↔ sl.dir = .write := by cases sl.dir <;> simp
  simp only [Slot.misfitsUnit, Bool.or_eq_true, Slot.misfits_iff, hdir, decide_eq_true_eq, or_assoc]

/-- A unit of a read in use, within its length and not yet received, fits (R69). -/
theorem Slot.fitsUnit {sl : Slot} {x : UnitIndex} (hs : sl.state ≠ .free) (hd : sl.dir = .read) (hx : x.val < sl.len)
    (hr : sl.received.row x = false) : sl.misfitsUnit x = false := by
  rw [← Bool.not_eq_true, Slot.misfitsUnit_iff, hd, hr]
  simp [hs, hx]

theorem Slot.fitsDone {sl : Slot} (hs : sl.state ≠ .free) (hd : sl.dir = .write) : sl.misfits .write = false := by
  rw [← Bool.not_eq_true, Slot.misfits_iff]
  simp [hs, hd]

/-- The unit is the last one expected (R72). -/
theorem Slot.allReceived_receive {sl : Slot} {x : UnitIndex} (hr : sl.received.row x = false) :
    (sl.receive x).allReceived = decide (sl.received.toList.count true + 1 = sl.len) := by
  simp only [Slot.allReceived, Slot.receive, Tab.count_setRow_true hr]

/-! ### The slot controller's cases (R69 to R75) -/

section
variable {s : State} {i : SlotId} {sl : Slot} {x : UnitIndex} {d : UnitData} {g : Integrity} {bad : Bool}

theorem State.takeReadUnit_misfit (hsl : s.slots.row i = sl) (h : sl.misfitsUnit x = true) :
    s.takeReadUnit i x d g = s.linkProtocol := by
  subst hsl
  exact if_pos h

theorem State.takeReadUnit_orphaned (hsl : s.slots.row i = sl) (h : sl.misfitsUnit x = false) (hs : sl.state = .orphaned) :
    s.takeReadUnit i x d g
      = if (sl.receive x).allReceived then s.lateReply i else s.setSlot i (sl.receive x) := by
  simp only [State.takeReadUnit, State.slot_eq, hsl, h, hs, Bool.false_eq_true, if_false]

theorem State.takeReadUnit_live (hsl : s.slots.row i = sl) (h : sl.misfitsUnit x = false)
    (hs : sl.state = .issued ∨ sl.state = .returning) :
    s.takeReadUnit i x d g
      = if sl.detached then
          if (sl.receive x).allReceived then s.freeSlot i else s.setSlot i { sl.receive x with state := .returning }
        else s.owedUnit i x d g := by
  rcases hs with hs | hs <;> simp only [State.takeReadUnit, State.slot_eq, hsl, h, hs, Bool.false_eq_true, if_false]

theorem State.takeWriteDone_misfit (hsl : s.slots.row i = sl) (h : sl.misfits .write = true) :
    s.takeWriteDone i bad = s.linkProtocol := by
  subst hsl
  exact if_pos h

theorem State.takeWriteDone_orphaned (hsl : s.slots.row i = sl) (h : sl.misfits .write = false) (hs : sl.state = .orphaned) :
    s.takeWriteDone i bad = s.lateReply i := by
  simp only [State.takeWriteDone, State.slot_eq, hsl, h, hs, Bool.false_eq_true, if_false]

theorem State.takeWriteDone_live (hsl : s.slots.row i = sl) (h : sl.misfits .write = false)
    (hs : sl.state = .issued ∨ sl.state = .returning) :
    s.takeWriteDone i bad = if sl.detached then s.freeSlot i else s.completeSlot i sl bad .memWriteFailed := by
  rcases hs with hs | hs <;> simp only [State.takeWriteDone, State.slot_eq, hsl, h, hs, Bool.false_eq_true, if_false]

/-- A unit that is not the last is forwarded, and the slot is RETURNING (R70, R71). -/
theorem State.owedUnit_more (hsl : s.slots.row i = sl) (h : (sl.receive x).allReceived = false) :
    s.owedUnit i x d g
      = (s.forwardUnit sl x d g).setSlot i
          { sl with state := .returning, received := sl.received.setRow x true
                    poisoned := sl.poisoned || decide (g = .poisoned) } := by
  subst hsl
  exact if_neg (Bool.eq_false_iff.mp h)

/-- The last unit is forwarded and answers the read (R72). -/
theorem State.owedUnit_last (hsl : s.slots.row i = sl) (h : (sl.receive x).allReceived = true) :
    s.owedUnit i x d g
      = (s.forwardUnit sl x d g).completeSlot i sl (sl.poisoned || decide (g = .poisoned)) .memPoisoned := by
  subst hsl
  exact if_pos h

end

/-- Settles O35: each is tested before anything else of the message is used. -/
theorem misfitMessageIsDiscarded : Obligations.MisfitMessageIsDiscarded := by
  intro s hr t
  refine ⟨exec_unknownLinkMessage hr, fun i x d => exec_readUnit_unnamed hr, fun i => exec_writeDone_unnamed hr,
    fun e n i x d g o => ⟨rfl, rfl, rfl, rfl, rfl, rfl, rfl, rfl, rfl, rfl⟩, fun i x d g hg hmis => ?_,
    fun i o ho hmis => ?_⟩
  · rw [exec_readUnit_current hr hg, State.takeReadUnit_misfit rfl (Slot.misfitsUnit_iff.mpr hmis)]
    rfl
  · have hmisfits : (s.slots.row i).misfits .write = true :=
      Slot.misfits_iff.mpr (hmis.imp_right fun hread => ne_of_eq_of_ne hread (by decide))
    rw [exec_writeDone_current hr ho, State.takeWriteDone_misfit rfl hmisfits]
    rfl

/-! ### Owed slots (R70 to R73) -/

/-- Settles O36: the unit fits, is not the last, and is forwarded. -/
theorem readUnitIsForwarded : Obligations.ReadUnitIsForwarded := by
  intro i x d g s sl hr hg hsl hstate hdet hdir hx hnew hmore sent
  have hfit := Slot.fitsUnit (Slot.used_of_live hstate) hdir hx hnew
  have hlast : (sl.receive x).allReceived = false := (Slot.allReceived_receive hnew).trans (decide_eq_false hmore)
  rw [exec_readUnit_current hr hg, State.takeReadUnit_live hsl hfit hstate, if_neg (by simp [hdet]),
    State.owedUnit_more hsl hlast]
  rfl

/-- An answer from memory is counted by no port counter (Table 6-5). -/
theorem Port.countDone_answer (po : Port) (bad : Bool) : po.countDone (if bad then .memerr else .ok) = po := by
  cases bad <;> rfl

/-- The answer of a read from memory (R72). -/
theorem State.answerSlot_read (s : State) {sl : Slot} (hd : sl.dir = .read) (bad : Bool) :
    s.answerSlot sl (if bad then .memerr else .ok)
      = s.modPort sl.port (fun po =>
          { po.answers sl.tag (if bad then .memerr else .ok) with owedReads := po.owedReads - 1 }) := by
  simp only [State.answerSlot, Port.countDone_answer, hd]
  rfl

/-- The answer of a write from memory (R73). -/
theorem State.answerSlot_write (s : State) {sl : Slot} (hd : sl.dir = .write) (bad : Bool) :
    s.answerSlot sl (if bad then .memerr else .ok)
      = s.modPort sl.port (fun po =>
          { po.answers sl.tag (if bad then .memerr else .ok) with owedWrites := po.owedWrites - 1 }) := by
  simp only [State.answerSlot, Port.countDone_answer, hd]
  rfl

/-- The answer, its check when memory failed, and the slot freed (R72, R73). -/
theorem State.completeSlot_eq (s : State) (i : SlotId) (sl : Slot) (bad : Bool) (k : CheckKind) :
    s.completeSlot i sl bad k
      = State.setSlot
          (if bad then (s.answerSlot sl (if bad then .memerr else .ok)).raise sl.report (captureOf k sl s.ticks.stamp)
            else s.answerSlot sl (if bad then .memerr else .ok)) i Slot.reset := rfl

theorem State.forwardUnit_ticks (s : State) (sl : Slot) (x : UnitIndex) (d : UnitData) (g : Integrity) :
    (s.forwardUnit sl x d g).ticks = s.ticks := by
  simp only [State.forwardUnit]
  split <;> rfl

/-- The last unit and the DONE after it reach the port one behind the other (R70, R72). -/
theorem State.forwardUnit_answerSlot (s : State) {sl : Slot} (hd : sl.dir = .read) (x : UnitIndex) (d : UnitData)
    (g : Integrity) (bad : Bool) :
    let sent := s.modPort sl.port (fun po =>
      { po with
        rsp := po.rsp ++ [.readUnit sl.tag x d (decide (g = .poisoned)), .done sl.tag (if bad then .memerr else .ok)]
        tags := po.tags.setRow sl.tag false
        owedReads := po.owedReads - 1 })
    (s.forwardUnit sl x d g).answerSlot sl (if bad then .memerr else .ok)
      = if g = .corrected then sent.raise sl.report (captureOf .memCorrected sl s.ticks.stamp) else sent := by
  intro sent
  have hsent : (s.modPort sl.port (fun po => po.send (.readUnit sl.tag x d (g == .poisoned)))).modPort sl.port (fun po =>
      { po.answers sl.tag (if bad then .memerr else .ok) with owedReads := po.owedReads - 1 }) = sent := by
    rw [State.modPort_modPort]
    simp only [Port.answers, Port.send, List.append_assoc]
    rfl
  rw [State.answerSlot_read _ hd]
  by_cases hg : g = .corrected
  · rw [State.forwardUnit, if_pos hg, if_pos hg]
    exact congrArg (fun u : State => u.raise sl.report (captureOf .memCorrected sl s.ticks.stamp)) hsent
  · rw [State.forwardUnit, if_neg hg, if_neg hg]
    exact hsent

/-- Settles O37: the unit fits and is the last, so that the answer follows it at the port. -/
theorem lastReadUnitAnswersTheRead : Obligations.LastReadUnitAnswersTheRead := by
  intro i x d g s sl hr hg hsl hstate hdet hdir hx hnew hcount bad sent one two
  have hfit := Slot.fitsUnit (Slot.used_of_live hstate) hdir hx hnew
  have hlast : (sl.receive x).allReceived = true := (Slot.allReceived_receive hnew).trans (decide_eq_true hcount)
  have hone : (s.forwardUnit sl x d g).answerSlot sl (if bad then .memerr else .ok) = one :=
    s.forwardUnit_answerSlot hdir x d g bad
  rw [exec_readUnit_current hr hg, State.takeReadUnit_live hsl hfit hstate, if_neg (by simp [hdet]),
    State.owedUnit_last hsl hlast, State.completeSlot_eq, hone, State.forwardUnit_ticks]

/-- Settles O38: the reply fits, and its outcome gives the answer. -/
theorem writeDoneAnswersTheWrite : Obligations.WriteDoneAnswersTheWrite := by
  intro i o s sl hr ho hsl hstate hdet hdir sent
  have hfit := Slot.fitsDone (Slot.used_of_live hstate) hdir
  rw [exec_writeDone_current hr ho, State.takeWriteDone_live hsl hfit hstate, if_neg (by simp [hdet]),
    State.completeSlot_eq, State.answerSlot_write s hdir]
  cases o with
  | ok => rfl
  | failed => rfl
  | unnamed => exact absurd rfl ho

/-! ### Orphaned and detached slots (R74, R75) -/

/-- Settles O39: the reply fits the ORPHANED slot, and the last one frees it. -/
theorem repliesToAnOrphanAreDiscarded : Obligations.RepliesToAnOrphanAreDiscarded := by
  intro i s sl hr hsl hstate freed gone
  have hused : sl.state ≠ .free := ne_of_eq_of_ne hstate (by decide)
  have hgone : s.lateReply i = gone := by subst hsl; rfl
  refine ⟨fun x d g hg hdir hx hnew => ?_, fun o ho hdir => ?_⟩
  · rw [exec_readUnit_current hr hg, State.takeReadUnit_orphaned hsl (Slot.fitsUnit hused hdir hx hnew) hstate,
      Slot.allReceived_receive hnew, hgone]
    exact ⟨fun hmore => by rw [if_neg (by simpa using hmore)]; rfl, fun hlast => by rw [if_pos (by simpa using hlast)]⟩
  · rw [exec_writeDone_current hr ho, State.takeWriteDone_orphaned hsl (Slot.fitsDone hused hdir) hstate, hgone]

/-- Settles O40: the reply fits the detached slot, and the last one frees it. -/
theorem repliesToADetachedSlotAreDiscarded : Obligations.RepliesToADetachedSlotAreDiscarded := by
  intro i s sl hr hsl hstate hdet
  have hused := Slot.used_of_live hstate
  refine ⟨fun x d g hg hdir hx hnew => ?_, fun o ho hdir => ?_⟩
  · rw [exec_readUnit_current hr hg, State.takeReadUnit_live hsl (Slot.fitsUnit hused hdir hx hnew) hstate, if_pos hdet,
      Slot.allReceived_receive hnew]
    exact ⟨fun hmore => by rw [if_neg (by simpa using hmore)]; rfl, fun hlast => by rw [if_pos (by simpa using hlast)]; rfl⟩
  · rw [exec_writeDone_current hr ho, State.takeWriteDone_live hsl (Slot.fitsDone hused hdir) hstate, if_pos hdet]
    rfl

end Sys2Proof.Machine
end

section
/-! SUPPORT. How ML_UP is screened (R90, R92), what an ADVERTISE of the current epoch does (R94, R95), and the release of RST_N
(R92, R142). -/

namespace Sys2Proof.Machine

/-! ### Screening (R90, R92) -/

/-- The commands that are a message on ML_UP of a known kind, with the epoch it carries (R90). -/
inductive LinkMessage (e : Epoch) : Instr → Prop
  | advertise (n : Fin 64) : LinkMessage e (.advertise e n)
  | readUnit (i : SlotId) (x : UnitIndex) (d : UnitData) (g : Integrity) : LinkMessage e (.readUnit e i x d g)
  | writeDone (i : SlotId) (o : WriteOutcome) : LinkMessage e (.writeDone e i o)

section
variable {e : Epoch} {c : Instr} {s : State}

/-- RST_N is looked at first and the epoch second, before anything else of the message (R90, R92). -/
theorem LinkMessage.exec_screened (h : LinkMessage e c) (s : State) :
    ∃ taken, exec c s = .next (if s.rstLow then s else if e ≠ s.link.epoch then s.countStale else taken) := by
  cases h with
  | advertise n => exact ⟨_, rfl⟩
  | readUnit i x d g => exact ⟨_, rfl⟩
  | writeDone i o => exact ⟨_, rfl⟩

/-- Nothing is taken while RST_N is low (R92). -/
theorem LinkMessage.exec_rstLow (h : LinkMessage e c) (hr : s.rstLow = true) : exec c s = .next s := by
  obtain ⟨taken, hexec⟩ := h.exec_screened s
  rw [hexec, if_pos hr]

/-- A message of another epoch only counts as stale (R90). -/
theorem LinkMessage.exec_stale (h : LinkMessage e c) (hr : s.rstLow = false) (he : e ≠ s.link.epoch) :
    exec c s = .next s.countStale := by
  obtain ⟨taken, hexec⟩ := h.exec_screened s
  rw [hexec, if_neg (by simp [hr]), if_pos he]

end

/-- Settles O34: each of the three known kinds is screened by its epoch. -/
theorem staleMessageOnlyCounts : Obligations.StaleMessageOnlyCounts := by
  intro e s hr he t
  exact ⟨fun n => (LinkMessage.advertise n).exec_stale hr he,
    fun i x d g => (LinkMessage.readUnit i x d g).exec_stale hr he,
    fun i o => (LinkMessage.writeDone i o).exec_stale hr he⟩

/-! ### ADVERTISE of the current epoch (R94, R95) -/

/-- It brings the link ONLINE exactly if the link waits for credits and 1 to 32 are advertised. -/
theorem exec_advertise_current {s : State} {n : Fin 64} (hr : s.rstLow = false) :
    exec (.advertise s.link.epoch n) s
      = .next (if s.link.state = .waitCredit ∧ 1 ≤ n.val ∧ n.val ≤ 32 then s.goOnline n.val else s.linkProtocol) :=
  congrArg Host.Outcome.next ((if_neg (by simp [hr])).trans (if_neg (by simp)))

/-- Settles O33: the two clauses are the two sides of the condition on the link and its credits. -/
theorem advertiseBringsTheLinkOnline : Obligations.AdvertiseBringsTheLinkOnline := by
  intro n s hr
  refine ⟨fun hwait hmin hmax => ?_, fun hrefused => ?_⟩
  · rw [exec_advertise_current hr, if_pos ⟨hwait, hmin, hmax⟩]
    rfl
  · have hnot : ¬(s.link.state = .waitCredit ∧ 1 ≤ n.val ∧ n.val ≤ 32) := by
      rintro ⟨hwait, hmin, hmax⟩
      rcases hrefused with hstate | hzero | hmany
      · exact hstate hwait
      · omega
      · omega
    rw [exec_advertise_current hr, if_neg hnot]
    rfl

/-! ### The release of RST_N (R92, R142) -/

/-- The message of no known kind, which carries no epoch, is not taken while RST_N is low (R92). -/
theorem exec_unknownLinkMessage_rstLow {s : State} (hr : s.rstLow = true) : exec .unknownLinkMessage s = .next s :=
  congrArg Host.Outcome.next (if_pos hr)

theorem exec_rstNRelease_rstLow {s : State} (hr : s.rstLow = true) : exec .rstNRelease s = .next s.releaseRst.finish :=
  congrArg Host.Outcome.next (if_pos hr)

/-- The end of an event takes nothing from a state in which nothing waits. -/
theorem State.finish_of_prompt {s : State} (h : Prompt s) : s.finish = s :=
  h.elim State.finish_of_ownEventNext State.finish_of_nothing_due

/-- The release right after full reset gives the machine of log 9. -/
theorem State.releaseRst_held : State.held.releaseRst = State.reset := rfl

/-- Settles O7: the release is one update, and of the machine after full reset nothing is due at its end. -/
theorem rstNReleaseSendsOneRestart : Obligations.RstNReleaseSendsOneRestart := by
  refine ⟨fun s hr => ⟨fun e n => (LinkMessage.advertise n).exec_rstLow hr,
    fun e i x d g => (LinkMessage.readUnit i x d g).exec_rstLow hr, fun e i o => (LinkMessage.writeDone i o).exec_rstLow hr,
    exec_unknownLinkMessage_rstLow hr, exec_rstNRelease_rstLow hr⟩, ?_⟩
  rw [exec_rstNRelease_rstLow rfl, State.releaseRst_held, State.finish_of_prompt prompt_reset]

end Sys2Proof.Machine
end

section
/-! SUPPORT. A REQUEST that is a duplicate or that waits, and a port whose reset line is low (R107, R110, R112, R126). -/

namespace Sys2Proof.Machine

/-! ### A REQUEST that is a duplicate (R112) -/

/-- A check and a change of one port do not meet. -/
theorem State.raise_modPort (s : State) (p : PortId) (f : Port → Port) (r : ReportMode) (c : Capture) :
    (s.modPort p f).raise r c = (s.raise r c).modPort p f := rfl

/-- A REQUEST whose tag is outstanding leaves the offers, and all that stays of it is a check and a discard record. -/
theorem State.takeRequest_duplicate {s : State} {p : PortId} {m : RequestMsg} {rest : List RequestMsg}
    (hd : (s.port p).tags.row m.tag = true) :
    (s.withReqOffers p rest).takeRequest p m
      = (s.rejectDuplicate p m).modPort p (fun po => { po with reqOffers := rest }) := by
  have hd' : ((s.withReqOffers p rest).port p).tags.row m.tag = true := by simpa [State.withReqOffers] using hd
  rw [State.takeRequest, if_pos hd', State.rejectDuplicate, State.rejectDuplicate, State.withReqOffers, State.raise_modPort,
    State.modPort_modPort, State.modPort_modPort]
  rfl

/-- Settles O13: the port takes the request as one whose tag is outstanding. -/
theorem duplicateRequestIsDiscarded : Obligations.DuplicateRequestIsDiscarded := by
  intro p m rest s hr hmode hp hq hl hd taken
  refine request_taken (State.takesRequest_intro hr hmode hp hq hl) ?_
  rw [State.takeRequest_duplicate hd, State.rejectDuplicate, State.modPort_modPort, newRecord_eq]

/-! ### A REQUEST that waits (R107, R110) -/

theorem Mode.admits_iff {m : Mode} : m.admits = true ↔ m ≠ .draining ∧ m ≠ .quiesced := by cases m <;> simp [Mode.admits]

/-- The port takes a REQUEST when every condition of R110 holds and RST_N is high. -/
theorem State.takesRequest_iff {s : State} {p : PortId} {m : RequestMsg} :
    s.takesRequest p m = true
      ↔ s.rstLow = false ∧ (s.mode ≠ .draining ∧ s.mode ≠ .quiesced) ∧ (s.port p).resetLow = false
        ∧ (s.port p).queue.length < 16 ∧ (m.kind = .write → (s.port p).list.length < 16) := by
  simp only [State.takesRequest, Bool.and_eq_true, Bool.not_eq_true', Mode.admits_iff, decide_eq_true_eq, Bool.or_eq_true,
    bne_iff_ne, ne_eq, imp_iff_not_or, and_assoc]

theorem State.not_takesRequest {s : State} {p : PortId} {m : RequestMsg}
    (h : s.rstLow = true ∨ s.mode = .draining ∨ s.mode = .quiesced ∨ (s.port p).resetLow = true
      ∨ 16 ≤ (s.port p).queue.length ∨ (m.kind = .write ∧ 16 ≤ (s.port p).list.length)) :
    ¬s.takesRequest p m = true := by
  rw [State.takesRequest_iff]
  rintro ⟨hrst, ⟨hdrain, hquiet⟩, hline, hqueue, hlist⟩
  rcases h with h | h | h | h | h | ⟨hk, h⟩
  · exact Bool.false_ne_true (hrst.symm.trans h)
  · exact hdrain h
  · exact hquiet h
  · exact Bool.false_ne_true (hline.symm.trans h)
  · omega
  · have := hlist hk
    omega

/-- A REQUEST offered while the oldest one cannot be taken waits. -/
theorem exec_request_waits {s : State} {p : PortId} {last : RequestMsg} (h : (s.offerRequest p last).requestDue p = false) :
    exec (.request p last) s = .next (s.offerRequest p last).finish := by
  rw [exec_request, if_neg (by rw [h]; exact Bool.false_ne_true)]

/-- Settles O10: the oldest REQUEST offered cannot be taken, so the new one waits behind it. -/
theorem requestWaitsWhileAConditionFails : Obligations.RequestWaitsWhileAConditionFails := by
  intro p m oldest rest s hoffers hcond waits
  have hwaits : s.offerRequest p m = waits := State.offerRequest_eq hoffers
  have hdue : waits.requestDue p = false := by
    rw [← Bool.not_eq_true, show waits = s.withReqOffers p (oldest :: rest) from rfl, State.requestDue_withReqOffers]
    exact State.not_takesRequest hcond
  refine ⟨?_, by simp [waits, State.reqHeld]⟩
  rw [exec_request_waits (by rw [hwaits, hdue]), hwaits]

/-! ### A port whose reset line is low (R126) -/

section
variable {s : State} {p : PortId}

theorem State.requestDue_line_low (h : (s.ports.row p).resetLow = true) : s.requestDue p = false := by
  unfold State.requestDue
  split
  · rfl
  · rw [← Bool.not_eq_true]
    exact State.not_takesRequest (.inr (.inr (.inr (.inl h))))

theorem State.unitDue_line_low (h : (s.ports.row p).resetLow = true) : s.unitDue p = false := by
  unfold State.unitDue
  split <;> simp [h]

theorem exec_writeUnit (p : PortId) (u : WriteUnitMsg) (s : State) :
    exec (.writeUnit p u) s
      = .next (if (s.offerUnit p u).unitDue p then (s.offerUnit p u).takeOfferedUnit p else s.offerUnit p u).finish := rfl

/-- A WRITE UNIT offered while the oldest one cannot be taken waits. -/
theorem exec_writeUnit_waits {u : WriteUnitMsg} (h : (s.offerUnit p u).unitDue p = false) :
    exec (.writeUnit p u) s = .next (s.offerUnit p u).finish := by
  rw [exec_writeUnit, if_neg (by rw [h]; exact Bool.false_ne_true)]

/-- The reset is not taken again while the line is held low. -/
theorem exec_portReset_line_low (h : (s.port p).resetLow = true) (w : Bool) : exec (.portReset p w) s = .next s :=
  congrArg Host.Outcome.next (if_pos h)

theorem exec_portResetRelease_line_low (h : (s.port p).resetLow = true) :
    exec (.portResetRelease p) s = .next (s.modPort p (fun po => { po with resetLow := false })).finish :=
  congrArg Host.Outcome.next (if_pos h)

end

/-- Settles O9: nothing that is offered is due while the line is low. -/
theorem portLineHoldsThePort : Obligations.PortLineHoldsThePort := by
  intro p s hlow
  refine ⟨by rw [State.reqHeld, hlow]; rfl, by rw [State.dataHeld, hlow]; rfl, exec_portReset_line_low hlow,
    fun m => ?_, fun u => ?_, exec_portResetRelease_line_low hlow⟩
  · exact exec_request_waits (State.requestDue_line_low (by simpa [State.offerRequest] using hlow))
  · exact exec_writeUnit_waits (State.unitDue_line_low (by simpa [State.offerUnit] using hlow))

end Sys2Proof.Machine
end

section
/-! SUPPORT. A WRITE UNIT taken by its port, at once or at the end of a later event (R115 to R117, R119). -/

namespace Sys2Proof.Machine

/-! ### The oldest WRITE UNIT offered is taken -/

/-- The buffer counts and a change of one port do not meet. -/
theorem State.setBuf_modPort (s : State) (p q : PortId) (f : Port → Port) (b : BufCounts) :
    (s.modPort p f).setBuf q b = (s.setBuf q b).modPort p f := rfl

/-- The state with the units that wait at a port replaced. -/
def State.withDataOffers (s : State) (p : PortId) (l : List WriteUnitMsg) : State :=
  s.modPort p (fun po => { po with dataOffers := l })

theorem State.offerUnit_eq {s : State} {p : PortId} {last : WriteUnitMsg} {l : List WriteUnitMsg}
    (h : (s.ports.row p).dataOffers ++ [last] = l) : s.offerUnit p last = s.withDataOffers p l :=
  State.modPort_congr (by rw [h])

theorem State.withDataOffers_self {s : State} {p : PortId} {l : List WriteUnitMsg} (h : (s.ports.row p).dataOffers = l) :
    s.withDataOffers p l = s := by
  subst h
  have hp : s.ports.modRow p (fun po => { po with dataOffers := (s.ports.row p).dataOffers }) = s.ports := Tab.setRow_row _ _
  simp only [State.withDataOffers, State.modPort, hp]

/-- A WRITE UNIT that comes next among what is due is the next due event (log 2). -/
theorem State.nextDue_unit {s : State} {p : PortId} (h : s.unitIsNext p) (hd : s.unitDue p = true) :
    s.nextDue = some (.unit p) := by
  obtain ⟨hretire, hbefore⟩ := h
  have h1 : allPorts.find? (fun p => (s.retireStatus p).isSome) = none := by simp [hretire]
  have h2 : allPorts.find? s.unitDue = some p := by
    rw [allPorts_eq, ← Fin.find?_eq_find?_finRange, Fin.find?_eq_some_iff]
    exact ⟨hd, hbefore⟩
  simp only [State.nextDue, h1, h2]

/-- A WRITE UNIT that can be taken is taken when one is offered and it is the oldest, and at the end of a later event when it
comes next among what is due (R115, R119, log 2). -/
theorem unit_taken {s taken : State} {p : PortId} {u : WriteUnitMsg} {us : List WriteUnitMsg}
    (hdue : (s.withDataOffers p (u :: us)).unitDue p = true)
    (htake : (s.withDataOffers p (u :: us)).takeOfferedUnit p = taken) :
    (∀ last, (s.port p).dataOffers ++ [last] = u :: us → exec (.writeUnit p last) s = .next taken.finish)
      ∧ ((s.port p).dataOffers = u :: us → s.ownEventNext = false → s.unitIsNext p → s.finish = taken.finish) := by
  refine ⟨fun last hl => ?_, fun hl hown hnext => ?_⟩
  · rw [exec_writeUnit, State.offerUnit_eq hl, if_pos hdue, htake]
  · rw [State.withDataOffers_self hl] at hdue htake
    rw [State.finish_next hown (State.nextDue_unit hnext hdue)]
    exact congrArg State.finish htake

/-! ### Room in the buffer (R119) -/

theorem State.sharedInUse_eq (s : State) :
    s.sharedInUse
      = (s.bufCounts 0).shared + (s.bufCounts 1).shared + (s.bufCounts 2).shared + (s.bufCounts 3).shared := by
  simp [State.sharedInUse, allPorts, Nat.add_assoc]

/-- A port is given a reserve unit, or else a shared one. -/
theorem State.bufferRoom_iff {s : State} {p : PortId} :
    s.bufferRoom p = true
      ↔ (s.bufCounts p).reserve < 16
        ∨ (s.bufCounts 0).shared + (s.bufCounts 1).shared + (s.bufCounts 2).shared + (s.bufCounts 3).shared < 64 := by
  rw [← State.sharedInUse_eq]
  simp only [State.bufferRoom, Bool.or_eq_true, decide_eq_true_eq]

/-! ### What the oldest record does with a unit (R115 to R117) -/

/-- The oldest record counts one more unit; with its last unit it leaves the list and its entry's data is complete (R115). -/
theorem Port.advanceList_eq {po : Port} {r : ListRecord} {rs : List ListRecord} (h : po.list = r :: rs) (m : RecordMode) :
    po.advanceList m
      = { po with
          list := if r.expected ≤ r.taken + 1 then rs else { r with taken := r.taken + 1, mode := m } :: rs
          queue := po.queue.map (fun e =>
            if r.expected ≤ r.taken + 1 ∧ r.entry = some e.tag then { e with data := .complete } else e) } := by
  rw [Port.advanceList_cons h]
  by_cases hlast : r.expected ≤ r.taken + 1
  · simp [Nat.not_lt.mpr hlast, hlast, Port.modEntry]
  · simp [Nat.lt_of_not_le hlast, hlast]

/-- The oldest record takes the oldest unit offered for its entry, which `f` changes (R115, R117). -/
theorem Port.takeUnit_eq {po : Port} {u : WriteUnitMsg} {us : List WriteUnitMsg} {r : ListRecord} {rs : List ListRecord}
    (hu : po.dataOffers = u :: us) (hl : po.list = r :: rs) (f : Entry → Entry) (ht : ∀ e, (f e).tag = e.tag)
    (m : RecordMode) :
    (po.popData.modEntry r.entry f).advanceList m
      = { po with
          dataOffers := us
          list := if r.expected ≤ r.taken + 1 then rs else { r with taken := r.taken + 1, mode := m } :: rs
          queue := po.queue.map (fun e =>
            if r.entry = some e.tag then
              { f e with data := if r.expected ≤ r.taken + 1 then .complete else (f e).data }
            else e) } := by
  have hq : ((po.popData.modEntry r.entry f).queue.map (fun e =>
      if r.expected ≤ r.taken + 1 ∧ r.entry = some e.tag then { e with data := .complete } else e))
      = po.queue.map (fun e =>
          if r.entry = some e.tag then { f e with data := if r.expected ≤ r.taken + 1 then .complete else (f e).data }
          else e) := by
    rw [Port.modEntry_queue, Port.popData_queue, List.map_map]
    refine List.map_congr_left fun e _ => ?_
    by_cases he : r.entry = some e.tag
    · by_cases hlast : r.expected ≤ r.taken + 1
      · simp [he, ht, hlast]
      · simp [he, hlast]
    · simp [he]
  rw [Port.advanceList_eq (po := po.popData.modEntry r.entry f) hl, hq]
  simp [Port.modEntry, Port.popData, hu]

section
variable {s : State} {p : PortId} {u : WriteUnitMsg} {us : List WriteUnitMsg} {r : ListRecord} {rs : List ListRecord}

/-- The unit is sunk: only the list and the offers change, and with the last unit the entry's data is complete. -/
theorem State.sinkUnit_eq (hu : (s.ports.row p).dataOffers = u :: us) (hl : (s.ports.row p).list = r :: rs)
    (hm : r.mode = .sink) :
    s.sinkUnit p
      = s.modPort p (fun po =>
          { po with
            dataOffers := us
            list := if r.expected ≤ r.taken + 1 then rs else { r with taken := r.taken + 1 } :: rs
            queue := po.queue.map (fun e =>
              if r.expected ≤ r.taken + 1 ∧ r.entry = some e.tag then { e with data := .complete } else e) }) := by
  refine State.modPort_congr ?_
  rw [Port.advanceList_eq (po := (s.ports.row p).popData) hl, ← hm]
  simp [Port.popData, hu]

/-- The unit is stored as `State.stored` says. -/
theorem State.storeUnit_eq_stored (hu : (s.ports.row p).dataOffers = u :: us) (hl : (s.ports.row p).list = r :: rs)
    (hm : r.mode = .store) : s.storeUnit p r u = s.stored p u us r rs := by
  refine State.modPort_congr (s := s.setBuf p (s.bufCounts p).give) ?_
  rw [hm]
  exact Port.takeUnit_eq (po := s.ports.row p) hu hl _ (by intro e; rfl) .store

/-! ### A unit that can be taken, case by case -/

/-- At an empty list a unit can be taken (R116). -/
theorem State.unitDue_noRecord (hr : s.rstLow = false) (hp : (s.ports.row p).resetLow = false)
    (hl : (s.ports.row p).list = []) : (s.withDataOffers p (u :: us)).unitDue p = true := by
  simp [State.unitDue, State.withDataOffers, hr, hp, hl]

/-- A unit for a record can be taken when it is sunk, bad, or can be given a buffer unit (R115, R117, R119). -/
theorem State.unitDue_record (hr : s.rstLow = false) (hp : (s.ports.row p).resetLow = false)
    (hl : (s.ports.row p).list = r :: rs) :
    (s.withDataOffers p (u :: us)).unitDue p = (r.mode == .sink || u.bad || s.bufferRoom p) := by
  simp [State.unitDue, State.withDataOffers, State.bufferRoom, State.sharedInUse, hr, hp, hl]

theorem State.takeOfferedUnit_stray (hl : (s.ports.row p).list = []) :
    (s.withDataOffers p (u :: us)).takeOfferedUnit p
      = (s.raise .all { kind := .strayData, port := some p, tag := none, addr := none, region := none, account := none,
                        stamp := s.ticks.stamp }).modPort p (fun po => { po with dataOffers := us }) := by
  have hstray : (s.withDataOffers p (u :: us)).takeOfferedUnit p = (s.withDataOffers p (u :: us)).strayUnit p := by
    simp [State.takeOfferedUnit, State.withDataOffers, hl]
  rw [hstray, State.strayUnit, State.withDataOffers, State.raise_modPort, State.modPort_modPort]
  rfl

theorem State.takeOfferedUnit_sink (hl : (s.ports.row p).list = r :: rs) (hm : r.mode = .sink) :
    (s.withDataOffers p (u :: us)).takeOfferedUnit p = (s.withDataOffers p (u :: us)).sinkUnit p := by
  simp [State.takeOfferedUnit, State.withDataOffers, hl, hm]

theorem State.takeOfferedUnit_store (hl : (s.ports.row p).list = r :: rs) (hm : r.mode = .store) (hb : u.bad = false) :
    (s.withDataOffers p (u :: us)).takeOfferedUnit p = (s.withDataOffers p (u :: us)).storeUnit p r u := by
  simp [State.takeOfferedUnit, State.withDataOffers, hl, hm, hb]

theorem State.takeOfferedUnit_bad (hl : (s.ports.row p).list = r :: rs) (hm : r.mode = .store) (hb : u.bad = true) :
    (s.withDataOffers p (u :: us)).takeOfferedUnit p = (s.withDataOffers p (u :: us)).parityError p r := by
  simp [State.takeOfferedUnit, State.withDataOffers, hl, hm, hb]

/-- The offers before the unit is stored have no part in what storing it leaves. -/
theorem State.stored_withDataOffers (l : List WriteUnitMsg) :
    (s.withDataOffers p l).stored p u us r rs = s.stored p u us r rs := by
  rw [State.stored, State.withDataOffers, State.setBuf_modPort, State.modPort_modPort]
  rfl

@[simp] theorem State.withDataOffers_list (l : List WriteUnitMsg) :
    ((s.withDataOffers p l).ports.row p).list = (s.ports.row p).list := by simp [State.withDataOffers]

@[simp] theorem State.withDataOffers_dataOffers (l : List WriteUnitMsg) :
    ((s.withDataOffers p l).ports.row p).dataOffers = l := by simp [State.withDataOffers]

end

/-- Settles O16: at an empty list the unit is stray. -/
theorem strayUnitIsDiscarded : Obligations.StrayUnitIsDiscarded := by
  intro p u us s hr hp hl taken
  exact unit_taken (State.unitDue_noRecord hr hp hl) (State.takeOfferedUnit_stray hl)

/-- Settles O17: the mode of the oldest record and the room in the buffer decide. -/
theorem unitGoesToTheOldestRecord : Obligations.UnitGoesToTheOldestRecord := by
  intro p u us s r rs hr hp hl last shared takenAs
  have hdue := State.unitDue_record (u := u) (us := us) hr hp hl
  have hl' : ((s.withDataOffers p (u :: us)).ports.row p).list = r :: rs := (State.withDataOffers_list _).trans hl
  have hu' := State.withDataOffers_dataOffers (s := s) (p := p) (u :: us)
  refine ⟨fun hm => unit_taken (by rw [hdue, hm]; rfl) ?_, fun hm hb hroom => unit_taken ?_ ?_,
    fun hm hb hres hsh newest hoffers => ?_⟩
  · rw [State.takeOfferedUnit_sink hl hm, State.sinkUnit_eq hu' hl' hm, State.withDataOffers, State.modPort_modPort]
  · rw [hdue, State.bufferRoom_iff.mpr hroom, Bool.or_true]
  · rw [State.takeOfferedUnit_store hl hm hb, State.storeUnit_eq_stored hu' hl' hm]
    exact State.stored_withDataOffers _
  · have hfull : s.bufferRoom p = false := by
      rw [← Bool.not_eq_true, State.bufferRoom_iff]
      omega
    have hwaits := State.offerUnit_eq hoffers
    refine ⟨?_, by simp [State.dataHeld]⟩
    rw [exec_writeUnit_waits (by rw [hwaits, hdue, hm, hb, hfull]; rfl), hwaits]
    rfl

/-! ### A bad unit for a STORE record (R117) -/

/-- A change of the one entry with a tag that no other entry carries. -/
theorem map_at_only_tag {a b : List Entry} {e : Entry} (hne : ∀ x ∈ a ++ b, x.tag ≠ e.tag) (f : Entry → Entry) :
    (a ++ e :: b).map (fun x => if some e.tag = some x.tag then f x else x) = a ++ f e :: b := by
  have hkeep : ∀ x ∈ a ++ b, (if some e.tag = some x.tag then f x else x) = id x := fun x hx =>
    if_neg fun hx' => hne x hx (Option.some.inj hx').symm
  rw [List.map_append, List.map_cons, if_pos rfl, List.map_congr_left fun x hx => hkeep x (List.mem_append_left b hx),
    List.map_congr_left fun x hx => hkeep x (List.mem_append_right a hx), List.map_id, List.map_id]

/-- The entry of the oldest record is found by its tag. -/
theorem find?_only_tag {a b : List Entry} {e : Entry} {t : Option Tag} (hne : ∀ x ∈ a ++ b, x.tag ≠ e.tag)
    (ht : t = some e.tag) : (a ++ e :: b).find? (fun x => decide (t = some x.tag)) = some e := by
  subst ht
  have hbefore : a.find? (fun x => decide (some e.tag = some x.tag)) = none :=
    List.find?_eq_none.mpr fun x hx hx' =>
      hne x (List.mem_append_left b hx) (Option.some.inj (of_decide_eq_true hx')).symm
  rw [List.find?_append, hbefore, Option.none_or, List.find?_cons_of_pos (by simp)]

/-- The entry of the oldest record becomes DATAERR and holds no unit, and the record sinks its later units. -/
theorem Port.takeBadUnit_eq {po : Port} {u : WriteUnitMsg} {us : List WriteUnitMsg} {r : ListRecord} {rs : List ListRecord}
    {a b : List Entry} {e : Entry} (hu : po.dataOffers = u :: us) (hl : po.list = r :: rs) (hq : po.queue = a ++ e :: b)
    (he : r.entry = some e.tag) (hne : ∀ x ∈ a ++ b, x.tag ≠ e.tag) :
    (po.popData.modEntry r.entry (fun e => { e with disposition := .dataerr, held := [] })).advanceList .sink
      = { po with
          dataOffers := us
          queue := a ++
            { e with disposition := .dataerr, held := []
                     data := if r.expected ≤ r.taken + 1 then .complete else e.data } :: b
          list := if r.expected ≤ r.taken + 1 then rs else { r with taken := r.taken + 1, mode := .sink } :: rs } := by
  rw [Port.takeUnit_eq hu hl _ (by intro x; rfl), hq, he, map_at_only_tag hne]

/-- The DATA_PARITY check and a change of one port do not meet. -/
theorem State.raiseParity_modPort (s : State) (p : PortId) (f : Port → Port) (e : Entry) :
    (s.modPort p f).raiseParity p e = (s.raiseParity p e).modPort p f := rfl

/-- The write of a record that has its entry becomes DATAERR and its units are released (R117). -/
theorem State.parityError_entry {s : State} {p : PortId} {r : ListRecord} {e : Entry}
    (h : (s.port p).queue.find? (fun x => decide (r.entry = some x.tag)) = some e) :
    s.parityError p r
      = ((s.raiseParity p e).modPort p (fun po =>
          (po.popData.modEntry r.entry (fun e => { e with disposition := .dataerr, held := [] })).advanceList .sink)).release p
          e.held.length := by
  rw [State.parityError, h]

/-- Settles O18: the entry is found by its tag, and its write is DATAERR before its units are released. -/
theorem parityErrorMarksDataerr : Obligations.ParityErrorMarksDataerr := by
  intro p u us s r rs before behind e hr hp hl hm hb hq he hne taken
  refine unit_taken (by rw [State.unitDue_record hr hp hl, hb, Bool.or_true, Bool.true_or]) ?_
  rw [State.takeOfferedUnit_bad hl hm hb]
  have hfind : ((s.withDataOffers p (u :: us)).port p).queue.find? (fun x => decide (r.entry = some x.tag)) = some e := by
    rw [← find?_only_tag hne he, ← hq]
    simp [State.withDataOffers]
  rw [State.parityError_entry hfind, State.withDataOffers, State.raiseParity_modPort, State.modPort_modPort]
  refine congrArg (fun t : State => t.release p e.held.length) (State.modPort_congr (s := s.raiseParity p e) ?_)
  exact Port.takeBadUnit_eq (po := { s.ports.row p with dataOffers := u :: us }) rfl hl hq he hne

end Sys2Proof.Machine
end

section
/-! SUPPORT. A release of buffer units and the units that wait for them, offered again in order (R119, R120). -/

namespace Sys2Proof.Machine

/-! ### A waiting unit offered again -/

section
variable {s : State} {q : PortId} {u : WriteUnitMsg} {us : List WriteUnitMsg} {r : ListRecord} {rs : List ListRecord}

theorem State.offerAgain_noOffer (h : (s.ports.row q).dataOffers = []) : s.offerAgain q = s := by
  simp [State.offerAgain, h]

theorem State.offerAgain_noRecord (h : (s.ports.row q).list = []) : s.offerAgain q = s := by
  unfold State.offerAgain
  split
  · next hl =>
    rw [State.port_eq, h] at hl
    cases hl
  · rfl

/-- A good unit for a STORE record is stored when it can be given a buffer unit (R119, R120). -/
theorem State.offerAgain_unit (hu : (s.ports.row q).dataOffers = u :: us) (hl : (s.ports.row q).list = r :: rs) :
    s.offerAgain q
      = if s.rstLow = false ∧ (s.ports.row q).resetLow = false ∧ r.mode = .store ∧ u.bad = false ∧ s.bufferRoom q = true
        then s.stored q u us r rs else s := by
  simp only [State.offerAgain, State.port_eq, hu, hl]
  refine if_ctx_congr ?_ (fun ⟨_, _, hm, _⟩ => State.storeUnit_eq_stored hu hl hm) fun _ => rfl
  simp only [Bool.and_eq_true, Bool.not_eq_true', beq_iff_eq, and_assoc]

/-- Only the port whose unit is offered again changes. -/
theorem State.offerAgain_other (s : State) {q q' : PortId} (h : q' ≠ q) :
    (s.offerAgain q).ports.row q' = s.ports.row q' := by
  rcases s.offerAgain_cases q with e | ⟨u, us, r, rs, -, e⟩
  · rw [e]
  · rw [e, State.storeUnit_ports, Tab.row_modRow_ne _ h]

theorem State.offerAgain_same {s t : State} (h : s.SameButStored t) (q : PortId) : s.SameButStored (t.offerAgain q) := by
  rcases t.offerAgain_cases q with e | ⟨u, us, r, rs, -, e⟩
  · rwa [e]
  · rw [e]
    exact State.storeUnit_same h q r u

end

/-- Where one port alone waits, and the order names it once, offering again in that order is offering to it. -/
theorem State.foldl_offerAgain {q : PortId} {l : List PortId} (hl : l.Nodup) {s : State}
    (h : ∀ q', q' ≠ q → (s.ports.row q').dataOffers = []) :
    l.foldl State.offerAgain s = if q ∈ l then s.offerAgain q else s := by
  induction l generalizing s with
  | nil => rfl
  | cons a l ih =>
    obtain ⟨ha, hl⟩ := List.nodup_cons.mp hl
    rw [List.foldl_cons]
    by_cases hq : a = q
    · subst hq
      rw [ih hl (fun q' hne => by rw [State.offerAgain_other s hne, h q' hne]), if_neg ha, if_pos List.mem_cons_self]
    · rw [State.offerAgain_noOffer (h a hq), ih hl h]
      simp only [List.mem_cons, Ne.symm hq, false_or]

/-! ### The release (R120) -/

theorem State.setBuf_bufCounts (s : State) (p : PortId) : s.setBuf p (s.bufCounts p) = s := by
  simp [State.setBuf]

theorem State.release_zero (s : State) (p : PortId) : s.release p 0 = s := if_pos rfl

theorem State.release_pos {s : State} {p : PortId} {n : Nat} (h : 0 < n) :
    s.release p n = (releaseOrder p).foldl State.offerAgain (s.setBuf p ((s.bufCounts p).release n)) :=
  if_neg (Nat.pos_iff_ne_zero.mp h)

/-- The shared count is lowered first and the reserve count by the rest. -/
theorem BufCounts.release_eq (b : BufCounts) (n : Nat) :
    b.release n = { shared := b.shared - min n b.shared, reserve := b.reserve - (n - min n b.shared) } := by
  rw [BufCounts.release, BufCounts.mk.injEq]
  omega

/-- The order of a release names every port once. -/
theorem releaseOrder_nodup (p : PortId) : (releaseOrder p).Nodup := by
  revert p; decide

theorem mem_releaseOrder (p q : PortId) : q ∈ releaseOrder p := by
  by_cases h : q = p <;> simp [releaseOrder, h]

theorem releaseOrder_eq {p q₁ q₂ q₃ : PortId} (h : [0, 1, 2, 3].filter (fun q => decide (q ≠ p)) = [q₁, q₂, q₃]) :
    releaseOrder p = [p, q₁, q₂, q₃] := by
  have hne : (fun q => q != p) = fun q => decide (q ≠ p) := funext fun q => by by_cases h : q = p <;> simp [h]
  rw [releaseOrder, allPorts, hne, h]

/-- Settles O19: the ports are offered to in the order of the release, and a port with no unit changes nothing. -/
theorem releaseEmptiesSharedFirst : Obligations.ReleaseEmptiesSharedFirst := by
  intro s p n low room offered
  have hlow : s.setBuf p ((s.bufCounts p).release n) = low := by rw [BufCounts.release_eq]
  have hroom : ∀ t q, room t q ↔ t.bufferRoom q = true := fun t q => State.bufferRoom_iff.symm
  have hsame : s.SameButStored low := by constructor <;> simp [low]
  have hoffered : ∀ t q, s.SameButStored t → offered t q = t.offerAgain q := fun t q ht => by
    cases hu : (t.ports.row q).dataOffers with
    | nil =>
      rw [State.offerAgain_noOffer hu]
      simp only [offered, State.port_eq, hu]
    | cons u us =>
      cases hl : (t.ports.row q).list with
      | nil =>
        rw [State.offerAgain_noRecord hl]
        simp only [offered, State.port_eq, hu, hl]
      | cons r rs =>
        rw [State.offerAgain_unit hu hl, ht.rstLow, ht.resetLow]
        simp only [offered, State.port_eq, hu, hl, hroom]
  refine ⟨fun hnone => ?_, fun q u us r rs hn hr hp hu hl hm hb hq hnone => ?_, fun q₁ q₂ q₃ hn horder => ?_⟩
  · rcases Nat.eq_zero_or_pos n with rfl | hn
    · rw [State.release_zero, ← hlow, BufCounts.release_zero, State.setBuf_bufCounts]
    · rw [State.release_pos hn, hlow, State.foldl_offerAgain (s := low) (q := p) (releaseOrder_nodup p) fun q _ => hnone q,
        if_pos (mem_releaseOrder p p)]
      exact State.offerAgain_noOffer (hnone p)
  · rw [State.release_pos hn, hlow, State.foldl_offerAgain (s := low) (releaseOrder_nodup p) hnone,
      if_pos (mem_releaseOrder p q)]
    exact (State.offerAgain_unit (s := low) hu hl).trans (if_pos ⟨hr, hp, hm, hb, (hroom low q).mp hq⟩)
  · have h1 := State.offerAgain_same hsame p
    have h2 := State.offerAgain_same h1 q₁
    have h3 := State.offerAgain_same h2 q₂
    rw [State.release_pos hn, hlow, releaseOrder_eq horder, hoffered low p hsame, hoffered _ q₁ h1, hoffered _ q₂ h2,
      hoffered _ q₃ h3]
    rfl

end Sys2Proof.Machine
end

section
/-! SUPPORT. WRITE PORT and WRITE TIMING: which payloads are settings, and what the commands do with them (R28, R79, R123,
R149, R161, R166). -/

namespace Sys2Proof.Machine

/-! ### Refusals and codes -/

/-- A refusal with WRONG_MODE (R149, R157). -/
theorem State.onCommand_wrongMode {s : State} {c : Instr} {f : State → Answer} (h : s.awaits c)
    (hf : f s = s.refuses .wrongMode) :
    s.onCommand c f
      = s.answered c .wrongMode (List.replicate (responseLength (((encodeFrame c).getD []).headD 0)) 0) := by
  rw [State.onCommand_awaited h, hf]
  rfl

theorem noRegionPolicyOf_eq_some_iff {b : Byte} {n : NoRegionPolicy} : noRegionPolicyOf b = some n ↔ n.code = b := by
  constructor
  · intro h
    unfold noRegionPolicyOf at h
    split at h
    · next hb => cases h; exact BitVec.eq_of_toNat_eq hb.symm
    · next hb => cases h; exact BitVec.eq_of_toNat_eq hb.symm
    · cases h
  · rintro rfl
    cases n <;> rfl

theorem reportModeOf_eq_some_iff {b : Byte} {r : ReportMode} : reportModeOf b = some r ↔ r.code = b := by
  refine ⟨fun h => ?_, fun h => h ▸ reportModeOf_code r⟩
  unfold reportModeOf at h
  split at h
  · next hb => cases h; exact BitVec.eq_of_toNat_eq hb.symm
  · next hb => cases h; exact BitVec.eq_of_toNat_eq hb.symm
  · next hb => cases h; exact BitVec.eq_of_toNat_eq hb.symm
  · next hb => cases h; exact BitVec.eq_of_toNat_eq hb.symm
  · cases h

theorem NoRegionPolicy.code_le (n : NoRegionPolicy) : n.code.toNat ≤ 1 := by cases n <;> decide

theorem ReportMode.code_le (r : ReportMode) : r.code.toNat ≤ 3 := by cases r <;> decide

/-! ### The port configuration (R123) -/

/-- The owed limits that a WRITE PORT carries are 1 to 16 (R123). -/
def LimitsSound (b : Tab 6 Byte) : Prop :=
  1 ≤ (b.row 0).toNat ∧ (b.row 0).toNat ≤ 16 ∧ 1 ≤ (b.row 1).toNat ∧ (b.row 1).toNat ≤ 16

/-- A payload is taken when it names an account, a policy and a report mode and its limits are sound (R123). -/
theorem parsePort_eq_some_iff {b : Tab 6 Byte} {c : PortConfig} :
    parsePort b = some c
      ↔ ∃ (a : AccountId) (n : NoRegionPolicy) (r : ReportMode), a.val = (b.row 2).toNat ∧ n.code = b.row 3
          ∧ r.code = b.row 5 ∧ LimitsSound b
          ∧ c = { readLimit := (b.row 0).toNat, writeLimit := (b.row 1).toNat, defaultAccount := a, noRegion := n,
                  defaultGuard := (b.row 4).getLsbD 0, defaultReport := r } := by
  simp only [← indexIn_eq_some_iff, ← noRegionPolicyOf_eq_some_iff, ← reportModeOf_eq_some_iff]
  constructor
  · intro h
    unfold parsePort at h
    split at h
    · next a n r ha hn hr =>
      dsimp only at h
      split at h
      · cases h
      · next hlimits =>
        have hsound : LimitsSound b := by
          unfold LimitsSound
          omega
        exact ⟨a, n, r, ha, hn, hr, hsound, (Option.some.inj h).symm⟩
    · cases h
  · rintro ⟨a, n, r, ha, hn, hr, ⟨h1, h2, h3, h4⟩, rfl⟩
    simp only [parsePort, ha, hn, hr]
    exact if_neg (by omega)

/-! ### The timing (R28, R79, R161) -/

/-- The three times that a WRITE TIMING carries (R166). -/
def payloadTimes (w : Tab 7 Byte) : TimingWrite :=
  { period := ((w.row 0).toNat * 256 + (w.row 1).toNat) * 256 + (w.row 2).toNat
    responseTimeout := (w.row 3).toNat * 256 + (w.row 4).toNat
    orphanLimit := ((w.row 5).toNat * 256 + (w.row 6).toNat) % 4096 }

/-- The checks of R28, R79 and R149 on the times. -/
structure TimingWrite.Sound (t : TimingWrite) : Prop where
  period_ge : 16 ≤ t.period
  period_le : t.period ≤ 65536
  timeout : t.responseTimeout ≤ 4095
  limit : t.orphanLimit ≠ 0

theorem bytesToNat_triple (x y z : Byte) : bytesToNat [x, y, z] = (x.toNat * 256 + y.toNat) * 256 + z.toNat := by
  simp [bytesToNat]

theorem TimingWrite.sound_iff {t : TimingWrite} :
    t.Sound ↔ ¬(t.period < 16 ∨ 65536 < t.period ∨ t.orphanLimit = 0 ∨ 4095 < t.responseTimeout) :=
  ⟨fun ⟨h1, h2, h3, h4⟩ => by omega, fun h => ⟨by omega, by omega, by omega, by omega⟩⟩

theorem parseTiming_of_sound {w : Tab 7 Byte} (h : (payloadTimes w).Sound) : parseTiming w = some (payloadTimes w) := by
  simp only [parseTiming, bytesToNat_triple, bytesToNat_pair]
  exact if_neg (TimingWrite.sound_iff.mp h)

theorem parseTiming_of_not_sound {w : Tab 7 Byte} (h : ¬(payloadTimes w).Sound) : parseTiming w = none := by
  simp only [parseTiming, bytesToNat_triple, bytesToNat_pair]
  exact if_pos (not_not.mp (mt TimingWrite.sound_iff.mpr h))

/-! ### The commands (R149) -/

section
variable {s : State} {x : Byte} {b : Tab 6 Byte} {w : Tab 7 Byte}

theorem exec_writePort_badIndex (h : s.awaits (.writePort x b)) (hx : 4 ≤ x.toNat) :
    exec (.writePort x b) s = .next (s.answered (.writePort x b) .badIndex []) := by
  have hnone : indexIn 4 x = none := indexIn_of_not_lt (Nat.not_lt.mpr hx)
  exact congrArg Host.Outcome.next (State.onCommand_badIndex h (by simp only [hnone]))

theorem exec_writePort_wrongMode (h : s.awaits (.writePort x b)) (hx : x.toNat < 4) (hm : s.mode ≠ .quiesced) :
    exec (.writePort x b) s = .next (s.answered (.writePort x b) .wrongMode []) :=
  congrArg Host.Outcome.next (State.onCommand_wrongMode h (by simp only [indexIn_of_lt hx, if_pos hm]))

theorem exec_writePort_badValue (h : s.awaits (.writePort x b)) (hx : x.toNat < 4) (hm : s.mode = .quiesced)
    (hb : parsePort b = none) : exec (.writePort x b) s = .next (s.answered (.writePort x b) .badValue []) :=
  congrArg Host.Outcome.next
    (State.onCommand_badValue h (by simp only [indexIn_of_lt hx, if_neg (not_not_intro hm), hb]))

theorem exec_writePort_ok {p : PortId} {c : PortConfig} (h : s.awaits (.writePort x b)) (hp : p.val = x.toNat)
    (hm : s.mode = .quiesced) (hb : parsePort b = some c) :
    exec (.writePort x b) s
      = .next ((s.modPort p (fun po => { po with config := c })).answered (.writePort x b) .ok []) := by
  have hsome : indexIn 4 x = some p := indexIn_eq_some_iff.mpr hp
  exact congrArg Host.Outcome.next (State.onCommand_did h (by simp only [hsome, if_neg (not_not_intro hm), hb]))

theorem exec_writeTiming_wrongMode (h : s.awaits (.writeTiming x w)) (hm : s.mode ≠ .quiesced) :
    exec (.writeTiming x w) s = .next (s.answered (.writeTiming x w) .wrongMode []) :=
  congrArg Host.Outcome.next (State.onCommand_wrongMode h (if_pos hm))

theorem exec_writeTiming_badValue (h : s.awaits (.writeTiming x w)) (hm : s.mode = .quiesced) (hw : parseTiming w = none) :
    exec (.writeTiming x w) s = .next (s.answered (.writeTiming x w) .badValue []) :=
  congrArg Host.Outcome.next (State.onCommand_badValue h (by simp only [if_neg (not_not_intro hm), hw]))

theorem exec_writeTiming_ok {t : TimingWrite} (h : s.awaits (.writeTiming x w)) (hm : s.mode = .quiesced)
    (hw : parseTiming w = some t) :
    exec (.writeTiming x w) s = .next ((s.writeTiming t).answered (.writeTiming x w) .ok []) :=
  congrArg Host.Outcome.next (State.onCommand_did h (by simp only [if_neg (not_not_intro hm), hw]))

end

/-- Settles O47: the index is tested before the mode and the mode before the payload, and a sound payload is the settings. -/
theorem quiescedOnlyWritesReplaceTheSettings : Obligations.QuiescedOnlyWritesReplaceTheSettings := by
  intro x b w s sound period timeout limit timely
  refine ⟨fun h => ⟨exec_writePort_badIndex h, exec_writePort_wrongMode h, fun hx hm hns => ?_, ?_⟩,
    fun h => ⟨exec_writeTiming_wrongMode h, fun hm hnt => ?_, fun hm ht => ?_⟩⟩
  · refine exec_writePort_badValue h hx hm (Option.eq_none_iff_forall_ne_some.mpr fun c hc => hns ?_)
    obtain ⟨a, n, r, ha, hn, hr, ⟨h1, h2, h3, h4⟩, -⟩ := parsePort_eq_some_iff.mp hc
    have haccount : (b.row 2).toNat ≤ 15 := ha ▸ Nat.le_of_lt_succ a.isLt
    exact ⟨h1, h2, h3, h4, haccount, hn ▸ n.code_le, hr ▸ r.code_le⟩
  · rintro p a n r hp hm ⟨h1, h2, h3, h4, -⟩ ha hn hr
    exact exec_writePort_ok h hp hm (parsePort_eq_some_iff.mpr ⟨a, n, r, ha, hn, hr, ⟨h1, h2, h3, h4⟩, rfl⟩)
  · refine exec_writeTiming_badValue h hm (parseTiming_of_not_sound fun ⟨h1, h2, h3, h4⟩ => hnt ⟨h1, h2, h3, h4⟩)
  · obtain ⟨h1, h2, h3, h4⟩ := ht
    exact exec_writeTiming_ok h hm (parseTiming_of_sound ⟨h1, h2, h3, h4⟩)

end Sys2Proof.Machine
end

section
/-! SUPPORT. The check record (R128 to R135): the codes of the kinds, what recording a check does to the record, and every move
leaves the primary capture the most severe. -/

namespace Sys2Proof.Machine

/-! ### Kinds (R128, R130, R166) -/

/-- The fourteen kinds in the order of Table 7-1. -/
def checkKinds : List CheckKind :=
  [.linkFailed, .timeout, .memPoisoned, .memWriteFailed, .protection, .boundary, .noRegion, .malformed, .dataParity,
   .dupTag, .strayData, .linkProtocol, .memCorrected, .late]

theorem checkKinds_code (k : CheckKind) : checkKinds[k.code.val]? = some k := by cases k <;> rfl

/-- Two kinds have no code in common (R166). -/
theorem CheckKind.code_inj {k l : CheckKind} : k.code = l.code ↔ k = l := by
  refine ⟨fun h => ?_, congrArg _⟩
  have hk := checkKinds_code k
  rw [h, checkKinds_code l] at hk
  exact (Option.some.inj hk).symm

/-- A check that a region governs is filtered out unless its report mode names its group (Table 7-3). -/
theorem CheckKind.recordedUnder_eq_false_iff {k : CheckKind} {m : ReportMode} :
    k.recordedUnder m = false
      ↔ ((k = .protection ∨ k = .boundary) ∧ m ≠ .protection ∧ m ≠ .all)
        ∨ ((k = .timeout ∨ k = .memPoisoned ∨ k = .memWriteFailed ∨ k = .memCorrected ∨ k = .dataParity)
          ∧ m ≠ .memory ∧ m ≠ .all) := by
  cases k <;> simp [CheckKind.recordedUnder]

/-! ### One check taken (R130, R132) -/

section
variable {r : CheckRecord} {c : Capture}

@[simp] theorem CheckRecord.add_sequence (r : CheckRecord) (c : Capture) : (r.add c).sequence = r.sequence + 1 := rfl

theorem CheckRecord.add_count (r : CheckRecord) (c : Capture) :
    (r.add c).count = if r.count < 255 then r.count + 1 else r.count := rfl

/-- The kind joins the kinds seen. -/
theorem CheckRecord.add_seen (r : CheckRecord) (c : Capture) (k : CheckKind) :
    (r.add c).kinds.row k.code = true ↔ k = c.kind ∨ r.kinds.row k.code = true := by
  have hrow : (r.add c).kinds.row k.code = if k = c.kind then true else r.kinds.row k.code := by
    simp only [CheckRecord.add, Tab.row_setRow, CheckKind.code_inj]
  rw [hrow]
  split <;> simp [*]

/-- The first capture becomes the primary one. -/
theorem CheckRecord.add_first (h : r.primary = none) : (r.add c).primary = some c ∧ (r.add c).replaced = r.replaced := by
  simp [CheckRecord.add, CheckRecord.decidePrimary, h]

/-- A capture at least as severe replaces the primary one. -/
theorem CheckRecord.add_replaces {old : Capture} (h : r.primary = some old) (hs : old.kind.severity ≤ c.kind.severity) :
    (r.add c).primary = some c ∧ (r.add c).replaced = true := by
  simp [CheckRecord.add, CheckRecord.decidePrimary, h, hs]

/-- A less severe capture leaves the primary one. -/
theorem CheckRecord.add_keeps {old : Capture} (h : r.primary = some old) (hs : c.kind.severity < old.kind.severity) :
    (r.add c).primary = some old ∧ (r.add c).replaced = r.replaced := by
  simp [CheckRecord.add, CheckRecord.decidePrimary, h, Nat.not_le.mpr hs]

end

theorem State.raise_recorded {s : State} {m : ReportMode} {c : Capture} (h : c.kind.recordedUnder m = true) :
    s.raise m c
      = { s with chk := { s.chk with record := s.chk.record.add c, pending := { s.chk.pending with check := true } } } := by
  simp only [State.raise, CheckUnit.raise, if_pos h]

theorem State.raise_suppressed {s : State} {m : ReportMode} {c : Capture} (h : c.kind.recordedUnder m = false) :
    s.raise m c
      = { s with chk := { s.chk with globals := { s.chk.globals with suppressed := s.chk.globals.suppressed + 1 } } } := by
  simp only [State.raise, CheckUnit.raise, h, Bool.false_eq_true, if_false]

/-- Settles O52: what is filtered out is what the report mode does not record, and the rest is added to the record. -/
theorem checkIsRecordedOrSuppressed : Obligations.CheckIsRecordedOrSuppressed := by
  intro s m c filtered r
  have hfiltered : c.kind.recordedUnder m = false ↔ filtered := CheckKind.recordedUnder_eq_false_iff
  refine ⟨fun h => State.raise_suppressed (hfiltered.mpr h), fun h => ⟨r.add c, State.raise_recorded ?_, r.add_sequence c,
    r.add_seen c, r.add_count c, CheckRecord.add_first, fun _ => CheckRecord.add_replaces, fun _ => CheckRecord.add_keeps⟩, ?_⟩
  · exact Bool.eq_true_of_not_eq_false (mt hfiltered.mp h)
  · exact ⟨rfl, rfl⟩

/-! ### The most severe capture (R131, R132) -/

/-- The record is empty, or its primary capture is as severe as every kind seen. -/
def CheckRecord.Sound (r : CheckRecord) : Prop := r.isEmpty ∨ ∃ c, r.holds c

theorem checkRecordSound_iff {s : State} : CheckRecordSound s ↔ s.chk.record.Sound := Iff.rfl

theorem CheckRecord.sound_clear (r : CheckRecord) : r.clear.Sound :=
  .inl ⟨fun k => Tab.row_const false k.code, rfl, rfl, rfl⟩

theorem CheckRecord.add_count_bounds {r : CheckRecord} (h : r.count ≤ 255) (c : Capture) :
    1 ≤ (r.add c).count ∧ (r.add c).count ≤ 255 := by
  rw [CheckRecord.add_count]
  split <;> omega

/-- The capture that stays or becomes the primary one is as severe as the kinds seen before and as the one that joins them. -/
theorem CheckRecord.Sound.add {r : CheckRecord} (h : r.Sound) (c : Capture) : (r.add c).Sound := by
  obtain ⟨hkinds, hcount, -, hprimary⟩ | ⟨old, hprimary, hseen, -, hcount, hmost⟩ := h
  · obtain ⟨h1, h255⟩ := CheckRecord.add_count_bounds (r := r) (by omega) c
    refine .inr ⟨c, (CheckRecord.add_first hprimary).1, (r.add_seen c _).mpr (.inl rfl), h1, h255, fun k hk => ?_⟩
    obtain rfl | hk := (r.add_seen c k).mp hk
    · exact Nat.le_refl _
    · exact absurd hk (by simp [hkinds k])
  · obtain ⟨h1, h255⟩ := CheckRecord.add_count_bounds hcount c
    by_cases hs : old.kind.severity ≤ c.kind.severity
    · refine .inr ⟨c, (CheckRecord.add_replaces hprimary hs).1, (r.add_seen c _).mpr (.inl rfl), h1, h255, fun k hk => ?_⟩
      obtain rfl | hk := (r.add_seen c k).mp hk
      · exact Nat.le_refl _
      · exact Nat.le_trans (hmost k hk) hs
    · have hlt := Nat.lt_of_not_le hs
      refine .inr ⟨old, (CheckRecord.add_keeps hprimary hlt).1, (r.add_seen c _).mpr (.inr hseen), h1, h255, fun k hk => ?_⟩
      obtain rfl | hk := (r.add_seen c k).mp hk
      · exact Nat.le_of_lt hlt
      · exact hmost k hk

/-! ### Every move -/

theorem CheckRecordSound.of_same {s t : State} (h : CheckRecordSound s) (hr : t.chk.record = s.chk.record) :
    CheckRecordSound t := by
  rw [checkRecordSound_iff, hr]
  exact h

theorem CheckRecordSound.raise {s : State} (h : CheckRecordSound s) (m : ReportMode) (c : Capture) :
    CheckRecordSound (s.raise m c) := by
  cases hm : c.kind.recordedUnder m with
  | true =>
    rw [State.raise_recorded hm]
    exact CheckRecord.Sound.add h c
  | false =>
    rw [State.raise_suppressed hm]
    exact h

theorem CheckRecordSound.raiseRefusal {s : State} (h : CheckRecordSound s) (p : PortId) (m : RequestMsg) (sn : Snapshot) :
    CheckRecordSound (s.raiseRefusal p m sn) := by
  unfold State.raiseRefusal
  split
  · exact h
  · exact h.raise _ _

/-- LINK_FAILED is recorded after every slot is freed, which leaves the record (R84, R98). -/
theorem CheckRecordSound.linkFail {s : State} (h : CheckRecordSound s) : CheckRecordSound s.linkFail := by
  rw [State.linkFail_eq]
  exact (h.raise .all (plainCapture .linkFailed s.ticks.stamp)).of_same rfl

/-- A grant charges an account, takes a slot and sends an ISSUE; it raises no check. -/
theorem State.grantMove_chk (s : State) (t : Tier) (p : PortId) (e : Entry) (rest : List Entry) (i : SlotId) :
    (s.grantMove t p e rest i).chk = s.chk := by
  simp only [State.grantMove, State.chargeFor_eq]
  rfl

/-- A move takes a check, empties the record or leaves it. -/
theorem Move.keeps_checkRecordSound {s t : State} (m : Move s t) (h : CheckRecordSound s) : CheckRecordSound t := by
  cases m with
  | fullReset w => exact checkRecordSound_reset.of_same rfl
  | duplicate p m => exact (h.raise .all _).of_same rfl
  | accept p m => exact (CheckRecordSound.raiseRefusal (s := s.modPort p _) h p m _).of_same rfl
  | stray p => exact (h.raise .all _).of_same rfl
  | dataerr p u us r rs e => exact (h.raise e.report _).of_same rfl
  | timeout i => exact (h.raise (s.slot i).report _).of_same rfl
  | linkFail => exact h.linkFail
  | resetLink => exact h.of_same (by simp [State.resetLink, s.freeAllSlots_same.chk])
  | grant t p e rest i => exact h.of_same (congrArg CheckUnit.record (s.grantMove_chk t p e rest i))
  | raise r c => exact h.raise r c
  | clearRecord => exact s.chk.record.sound_clear
  | clearGroup g => cases g <;> exact h
  | _ => exact h

/-- Settles O55: every move keeps the record sound, and a step is a chain of moves. -/
theorem checkRecordStaysSound : Obligations.CheckRecordStaysSound :=
  fun _ _ h hstep => step_keeps (fun _ _ m => m.keeps_checkRecordSound) (fun _ _ h => h) h hstep

end Sys2Proof.Machine
end

section
/-! SUPPORT. The alert line with SET ALERT MASK and ACK ALERT, and the commands CLEAR CHECKS and CLEAR COUNTERS (R135, R138 to
R140, R160, R166). -/

namespace Sys2Proof.Machine

/-! ### The alert line and its commands (R138 to R140) -/

section
variable {s : State} {x v : Byte}

/-- The causes that the low four bits of a byte name (R166). -/
def causesOf (v : Byte) : AlertSet :=
  { check := v.getLsbD 0, quiesced := v.getLsbD 1, linkOnline := v.getLsbD 2, linkFailed := v.getLsbD 3 }

theorem parseAlert_of_lt (h : v.toNat < 16) : parseAlert v = some (causesOf v) := if_neg (Nat.not_le.mpr h)

theorem parseAlert_of_le (h : 16 ≤ v.toNat) : parseAlert v = none := if_pos h

theorem exec_setAlertMask_ok (h : s.awaits (.setAlertMask x v)) (hv : v.toNat < 16) :
    exec (.setAlertMask x v) s
      = .next (State.answered { s with chk := { s.chk with mask := causesOf v } } (.setAlertMask x v) .ok []) :=
  congrArg Host.Outcome.next (State.onCommand_did h (by simp only [parseAlert_of_lt hv]))

theorem exec_setAlertMask_badValue (h : s.awaits (.setAlertMask x v)) (hv : 16 ≤ v.toNat) :
    exec (.setAlertMask x v) s = .next (s.answered (.setAlertMask x v) .badValue []) :=
  congrArg Host.Outcome.next (State.onCommand_badValue h (by simp only [parseAlert_of_le hv]))

theorem exec_ackAlert_ok (h : s.awaits (.ackAlert x v)) (hv : v.toNat < 16) :
    exec (.ackAlert x v) s
      = .next (State.answered { s with chk := { s.chk with pending := s.chk.pending.without (causesOf v) } }
          (.ackAlert x v) .ok []) :=
  congrArg Host.Outcome.next (State.onCommand_did h (by simp only [parseAlert_of_lt hv]))

theorem exec_ackAlert_badValue (h : s.awaits (.ackAlert x v)) (hv : 16 ≤ v.toNat) :
    exec (.ackAlert x v) s = .next (s.answered (.ackAlert x v) .badValue []) :=
  congrArg Host.Outcome.next (State.onCommand_badValue h (by simp only [parseAlert_of_le hv]))

end

/-- Some cause is in both sets. -/
theorem AlertSet.meets_iff {a b : AlertSet} :
    a.meets b = true
      ↔ a.check = true ∧ b.check = true ∨ a.quiesced = true ∧ b.quiesced = true
        ∨ a.linkOnline = true ∧ b.linkOnline = true ∨ a.linkFailed = true ∧ b.linkFailed = true := by
  simp only [AlertSet.meets, Bool.or_eq_true, Bool.and_eq_true, or_assoc]

theorem State.alertLow_iff {s : State} : s.alertLow = true ↔ s.rstLow = false ∧ s.chk.pending.meets s.chk.mask = true := by
  simp only [State.alertLow, Bool.and_eq_true, Bool.not_eq_true']

/-- Settles O51: a byte below 16 names the causes of its bits, a higher one none; the level is the causes pending and enabled. -/
theorem alertCommandsAndLine : Obligations.AlertCommandsAndLine :=
  ⟨fun _ _ _ => ⟨fun h => ⟨exec_setAlertMask_ok h, exec_setAlertMask_badValue h⟩,
      fun h => ⟨exec_ackAlert_ok h, exec_ackAlert_badValue h⟩⟩,
    fun _ => State.alertLow_iff.trans (and_congr_right' AlertSet.meets_iff)⟩

/-! ### CLEAR CHECKS and CLEAR COUNTERS (R135, R160) -/

section
variable {s : State} {x g : Byte}

/-- A refusal with STALE (R135, R157). -/
theorem State.onCommand_stale {c : Instr} {f : State → Answer} (h : s.awaits c) (hf : f s = s.refuses .stale) :
    s.onCommand c f = s.answered c .stale (List.replicate (responseLength (((encodeFrame c).getD []).headD 0)) 0) := by
  rw [State.onCommand_awaited h, hf]
  rfl

/-- The sequence that a CLEAR CHECKS carries, most significant byte first (R166). -/
theorem bytesToNat_row_two (b : Tab 2 Byte) : bytesToNat b.toList = (b.row 0).toNat * 256 + (b.row 1).toNat := by
  have hlist : b.toList = [b.row 0, b.row 1] := Tab.toList_eq_map b
  rw [hlist, bytesToNat_pair]

theorem exec_clearChecks_ok {b : Tab 2 Byte} (h : s.awaits (.clearChecks x b))
    (hb : (b.row 0).toNat * 256 + (b.row 1).toNat = s.chk.record.sequence.toNat) :
    exec (.clearChecks x b) s
      = .next (State.answered { s with chk := { s.chk with record := s.chk.record.clear } } (.clearChecks x b) .ok []) :=
  congrArg Host.Outcome.next (State.onCommand_did h (if_pos ((bytesToNat_row_two b).trans hb)))

theorem exec_clearChecks_stale {b : Tab 2 Byte} (h : s.awaits (.clearChecks x b))
    (hb : (b.row 0).toNat * 256 + (b.row 1).toNat ≠ s.chk.record.sequence.toNat) :
    exec (.clearChecks x b) s = .next (s.answered (.clearChecks x b) .stale []) :=
  congrArg Host.Outcome.next (State.onCommand_stale h (if_neg (bytesToNat_row_two b ▸ hb)))

theorem exec_clearCounters_ok {k : Group} (h : s.awaits (.clearCounters x g)) (hk : parseGroup g x = .ok k) :
    exec (.clearCounters x g) s = .next ((s.clearGroup k).answered (.clearCounters x g) .ok []) :=
  congrArg Host.Outcome.next (State.onCommand_did h (by rw [hk]))

theorem exec_clearCounters_badIndex (h : s.awaits (.clearCounters x g)) (hk : parseGroup g x = .error .badIndex) :
    exec (.clearCounters x g) s = .next (s.answered (.clearCounters x g) .badIndex []) :=
  congrArg Host.Outcome.next (State.onCommand_badIndex h (by rw [hk]))

theorem exec_clearCounters_badValue (h : s.awaits (.clearCounters x g)) (hk : parseGroup g x = .error .badValue) :
    exec (.clearCounters x g) s = .next (s.answered (.clearCounters x g) .badValue []) :=
  congrArg Host.Outcome.next (State.onCommand_badValue h (by rw [hk]))

end

/-- Settles O50: the sequence carried decides CLEAR CHECKS; the group kind, then the index, decide CLEAR COUNTERS. -/
theorem clearCommandsEmptyRecordAndCounters : Obligations.ClearCommandsEmptyRecordAndCounters := by
  intro x g b s
  refine ⟨fun h => ⟨exec_clearChecks_ok h, exec_clearChecks_stale h⟩, fun h => ?_⟩
  by_cases h0 : g.toNat = 0
  · have hk := parseGroup_account (x := x) h0
    rw [if_pos h0]
    split
    · next hx => exact exec_clearCounters_ok h (hk.trans (dif_pos hx))
    · next hx => exact exec_clearCounters_badIndex h (hk.trans (dif_neg hx))
  rw [if_neg h0]
  by_cases h1 : g.toNat = 1
  · have hk := parseGroup_port (x := x) h1
    rw [if_pos h1]
    split
    · next hx => exact exec_clearCounters_ok h (hk.trans (dif_pos hx))
    · next hx => exact exec_clearCounters_badIndex h (hk.trans (dif_neg hx))
  rw [if_neg h1]
  by_cases h2 : g.toNat = 2
  · rw [if_pos h2]
    exact exec_clearCounters_ok h (parseGroup_global h2)
  · rw [if_neg h2]
    exact exec_clearCounters_badValue h (parseGroup_unnamed h0 h1 h2)

end Sys2Proof.Machine
end

section
/-! SUPPORT. The reads that name no record: READ IDENT, READ STATUS, READ TIMING and READ CHECK RECORD, and the bytes they return
(R134, R158, R159, R161, R165, R166). -/

namespace Sys2Proof.Machine

/-! ### The reads (R134, R158, R159, R161) -/

section
variable {s : State} {x : Byte}

theorem exec_readIdent (h : s.awaits (.readIdent x)) :
    exec (.readIdent x) s = .next (s.answered (.readIdent x) .ok identBytes) :=
  congrArg Host.Outcome.next (State.onCommand_returns h rfl)

theorem exec_readStatus (h : s.awaits (.readStatus x)) :
    exec (.readStatus x) s = .next (s.answered (.readStatus x) .ok (statusBytes s)) :=
  congrArg Host.Outcome.next (State.onCommand_returns h rfl)

theorem exec_readTiming (h : s.awaits (.readTiming x)) :
    exec (.readTiming x) s = .next (s.answered (.readTiming x) .ok (timingBytes s)) :=
  congrArg Host.Outcome.next (State.onCommand_returns h rfl)

theorem exec_readCheckRecord (h : s.awaits (.readCheckRecord x)) :
    exec (.readCheckRecord x) s = .next (s.answered (.readCheckRecord x) .ok (checkRecordBytes s.chk.record)) :=
  congrArg Host.Outcome.next (State.onCommand_returns h rfl)

end

/-! ### Bytes of what they return (R165, R166) -/

theorem natToBytes_three (n : Nat) : natToBytes 3 n = BitVec.ofNat 8 (n / 65536) :: natToBytes 2 n := by
  simp [natToBytes, Nat.div_div_eq_div_mul]

theorem identBytes_eq : identBytes = [0x03, 0xA9, 0x04, 0x16, 0x01] := by decide

/-- The slots in use, counted over the slot numbers. -/
theorem State.slotsInUse_eq (s : State) :
    s.slotsInUse = (allSlots.filter (fun i => decide ((s.slots.row i).state ≠ .free))).length := by
  simp only [State.slotsInUse, Tab.toList_eq_map, List.filter_map, List.length_map, allSlots]
  refine congrArg List.length (List.filter_congr fun i _ => ?_)
  simp [Slot.busy, bne, Bool.beq_eq_decide_eq]

/-- Four causes as a number, CHECK in the lowest bit. -/
theorem AlertSet.bits_eq (a : AlertSet) :
    a.bits = bit a.check 0 + bit a.quiesced 1 + bit a.linkOnline 2 + bit a.linkFailed 3 := by
  have h := bitsToNat_map_finRange 4 (fun i => [a.check, a.quiesced, a.linkOnline, a.linkFailed].get i)
  simpa [AlertSet.bits, List.finRange_succ, Nat.add_assoc] using h

/-- Settles O43: each read answers OK, and its bytes are those of Table 10-3. -/
theorem plainReadsReturnTheState : Obligations.PlainReadsReturnTheState := by
  intro x s byte two four flag mode link inUse causes headAge r kinds
  have hfour : ∀ n, natToBytes 4 n = four n := natToBytes_four
  have hmode : s.mode.code = byte mode := by
    simp only [mode]
    cases s.mode <;> rfl
  have hlink : s.link.state.code = byte link := by
    simp only [link]
    cases s.link.state <;> rfl
  have hinUse : s.slotsInUse = inUse := s.slotsInUse_eq
  have hcauses : ∀ a : AlertSet, a.bits = causes a := AlertSet.bits_eq
  have hkinds : bitsToNat r.kinds.toList = kinds := bitsToNat_tab r.kinds
  refine ⟨fun h => by rw [exec_readIdent h, identBytes_eq], fun h => ?_, fun h => ?_, fun h => ?_⟩
  · have hage : ∀ p, natToBytes 2 (s.headAge p) = two (headAge p) := fun _ => rfl
    rw [exec_readStatus h]
    simp only [statusBytes, State.availableCredits, hmode, hlink, hinUse, hcauses, hfour]
    rfl
  · rw [exec_readTiming h]
    simp only [timingBytes, natToBytes_three]
    rfl
  · have hread : exec (.readCheckRecord x) s = .next (s.answered (.readCheckRecord x) .ok (checkRecordBytes r)) :=
      exec_readCheckRecord h
    rw [hread]
    simp only [checkRecordBytes, hkinds]
    cases r.primary with
    | none => rfl
    | some c =>
      simp only [captureBytes, optByte_eq_elim, natToBytes_five, hfour]
      rfl

end Sys2Proof.Machine
end

section
/-! SUPPORT. The operating modes: when a drain is due and what its completion does, and what SET MODE does by target and mode
(R144 to R146). -/

namespace Sys2Proof.Machine

/-! ### The drain (R146) -/

section
variable {s : State}

theorem State.idle_iff :
    s.Idle ↔ (∀ p, (s.port p).queue = [] ∧ (s.port p).list = []) ∧ ∀ i, (s.slot i).state = .free := by
  have hfree : ∀ i, (s.slot i).busy = false ↔ (s.slot i).state = .free := fun i => by
    rw [← Bool.not_eq_true, Slot.busy_iff, not_not]
  rw [forall_and, and_assoc, ← forall_congr' hfree]
  exact ⟨fun ⟨hq, hl, hf⟩ => ⟨hq, hl, hf⟩, fun ⟨hq, hl, hf⟩ => ⟨hq, hl, hf⟩⟩

theorem State.drainIsDue_iff : s.drainIsDue = true ↔ s.mode = .draining ∧ s.drained = true := by
  rw [State.drainIsDue, Bool.and_eq_true, beq_iff_eq]

/-- The part is QUIESCED and the alert cause is pending; nothing else changes. -/
theorem State.quiesce_eq :
    s.quiesce = { s with mode := .quiesced, chk := { s.chk with pending := { s.chk.pending with quiesced := true } } } := rfl

theorem State.examineDrain_of_due (h : s.drainIsDue = true) : s.examineDrain = s.quiesce := if_pos h

theorem State.examineDrain_of_not_due (h : ¬s.drainIsDue = true) : s.examineDrain = s := if_neg h

theorem exec_drainComplete : exec .drainComplete s = .next s.examineDrain.finish := rfl

end

/-- Settles O32: the condition spelt out is the one that the mode controller examines. -/
theorem drainCompletesWhenAllIsEmpty : Obligations.DrainCompletesWhenAllIsEmpty := by
  intro s holds
  have hdue : s.drainIsDue = true ↔ holds := by rw [State.drainIsDue_iff, State.drained_iff, State.idle_iff]
  refine ⟨fun h => ?_, fun h => ?_⟩
  · rw [exec_drainComplete, State.examineDrain_of_due (hdue.mpr h), State.quiesce_eq]
  · rw [exec_drainComplete, State.examineDrain_of_not_due (mt hdue.mp h)]

/-! ### SET MODE by its target (R144, R145) -/

section
variable {s : State} {m : Mode} {target : Byte}

theorem State.setAdmitting_of_not_draining (h : s.mode ≠ .draining) :
    s.setAdmitting m = State.did (State.finish { s with mode := m }) := if_neg h

theorem State.setAdmitting_of_draining (h : s.mode = .draining) : s.setAdmitting m = s.refuses .busy := if_pos h

theorem State.setDrain_of_admitting (h : s.mode = .pass ∨ s.mode = .regulate) :
    s.setDrain = State.did (State.examineDrain { s with mode := .draining }) := by
  unfold State.setDrain
  rcases h with h | h <;> rw [h]

/-- A drain begins where requests were admitted, and goes on while something is left. -/
theorem State.setDrain_of_not_drained (h : s.mode = .pass ∨ s.mode = .regulate) (hd : s.drained = false) :
    s.setDrain = State.did { s with mode := .draining } := by
  have hnot : ¬State.drainIsDue { s with mode := .draining } = true := fun hdue =>
    Bool.false_ne_true (hd.symm.trans (State.drainIsDue_iff.mp hdue).2)
  rw [State.setDrain_of_admitting h, State.examineDrain_of_not_due hnot]

/-- A drain that begins with nothing left completes in the same event. -/
theorem State.setDrain_of_drained (h : s.mode = .pass ∨ s.mode = .regulate) (hd : s.drained = true) :
    s.setDrain = State.did s.quiesce := by
  have hdue : State.drainIsDue { s with mode := .draining } = true := State.drainIsDue_iff.mpr ⟨rfl, hd⟩
  rw [State.setDrain_of_admitting h, State.examineDrain_of_due hdue]
  rfl

/-- A drain that has begun or ended is not begun again. -/
theorem State.setDrain_of_begun (h : s.mode = .draining ∨ s.mode = .quiesced) : s.setDrain = State.did s := by
  unfold State.setDrain
  rcases h with h | h <;> rw [h]

/-- The target code is tested before the mode (R144). -/
theorem State.setMode_nameless (h : 2 < target.toNat) : s.setMode target = s.refuses .badValue := by
  unfold State.setMode
  split
  · omega
  · omega
  · omega
  · rfl

end

/-! ### The SET MODE commands (R144, R145) -/

/-- A refused command changes nothing, and its response carries the payload that its status allows (R156, R157). -/
theorem State.onCommand_refuses {s : State} {c : Instr} {f : State → Answer} {st : MgmtStatus} (h : s.awaits c)
    (hf : f s = s.refuses st) :
    s.onCommand c f = s.answered c st (payloadUnder st (responseLength (((encodeFrame c).getD []).headD 0)) []) := by
  rw [State.onCommand_awaited h, hf]
  rfl

section
variable {s t : State} {x target : Byte} {st : MgmtStatus}

theorem exec_setModePass_did (h : s.awaits (.setModePass x target)) (ht : s.setMode target = State.did t) :
    exec (.setModePass x target) s = .next (t.answered (.setModePass x target) .ok []) :=
  congrArg Host.Outcome.next (State.onCommand_did h ht)

theorem exec_setModePass_refuses (h : s.awaits (.setModePass x target)) (ht : s.setMode target = s.refuses st) :
    exec (.setModePass x target) s = .next (s.answered (.setModePass x target) st (payloadUnder st 0 [])) :=
  congrArg Host.Outcome.next (State.onCommand_refuses h ht)

theorem exec_setModeRegulate_did (h : s.awaits (.setModeRegulate x)) (ht : s.setAdmitting .regulate = State.did t) :
    exec (.setModeRegulate x) s = .next (t.answered (.setModeRegulate x) .ok []) :=
  congrArg Host.Outcome.next (State.onCommand_did h ht)

theorem exec_setModeRegulate_refuses (h : s.awaits (.setModeRegulate x)) (ht : s.setAdmitting .regulate = s.refuses st) :
    exec (.setModeRegulate x) s = .next (s.answered (.setModeRegulate x) st (payloadUnder st 0 [])) :=
  congrArg Host.Outcome.next (State.onCommand_refuses h ht)

theorem exec_setModeDrain_did (h : s.awaits (.setModeDrain x)) (ht : s.setDrain = State.did t) :
    exec (.setModeDrain x) s = .next (t.answered (.setModeDrain x) .ok []) :=
  congrArg Host.Outcome.next (State.onCommand_did h ht)

end

/-- Settles O48: each target's case of SET MODE, by the mode it finds and by what is left in the part. -/
theorem setModeChangesTheMode : Obligations.SetModeChangesTheMode := by
  intro x s
  refine ⟨fun h => ⟨fun hm => ?_, fun hm => ?_⟩, fun h => ⟨fun hm => ?_, fun hm => ?_⟩, fun target ht h => ?_,
    fun h => ⟨fun hm hd => ?_, fun hm hd => ?_, fun hm => ?_⟩⟩
  · exact exec_setModePass_did h (State.setAdmitting_of_not_draining hm)
  · exact exec_setModePass_refuses h (State.setAdmitting_of_draining hm)
  · exact exec_setModeRegulate_did h (State.setAdmitting_of_not_draining hm)
  · exact exec_setModeRegulate_refuses h (State.setAdmitting_of_draining hm)
  · exact exec_setModePass_refuses h (State.setMode_nameless ht)
  · exact exec_setModeDrain_did h (State.setDrain_of_not_drained hm hd)
  · exact exec_setModeDrain_did h (State.setDrain_of_drained hm hd)
  · exact exec_setModeDrain_did h (State.setDrain_of_begun hm)

end Sys2Proof.Machine
end

section
/-! SUPPORT. The management port: the frame of a command and the command of a frame, the transaction between a fall and a rise
of CS_N, and the frames that are answered with a frame error (R152 to R156, R164, R165). -/

namespace Sys2Proof

/-! ### The payload of a frame (R164, R165) -/

@[simp] theorem toTab_row (n : Nat) (l : List Byte) (i : Fin n) : (toTab n l).row i = l.getD i.val 0 := by
  simp [toTab, Tab.row]

/-- The bytes of a table read back as that table. -/
@[simp] theorem toTab_toList {n : Nat} (t : Tab n Byte) : toTab n t.toList = t :=
  Tab.ext_rows fun i => by rw [toTab_row]; simp [Tab.row]

/-! ### The command of a frame (R153, R154) -/

section
variable {code index check : Byte} {payload : List Byte}

/-- A code without lengths names no command (Table 10-1). -/
theorem namedCommand_of_nameless (h : codeLengths code = none) : namedCommand code index payload = none := by
  unfold codeLengths at h
  split at h
  -- the last branch, of the codes that Table 10-1 does not list, is the only one without lengths
  case h_20 => simp only [namedCommand]
  all_goals cases h

/-- A frame of the length its code fixes is split into its payload and its check, and the check decides. -/
theorem decodeFrame_of_length (h : payload.length = commandLength code) :
    decodeFrame (code :: index :: (payload ++ [check]))
      = some (if crc8 (code :: index :: payload) = check then
          (namedCommand code index payload).getD (.unknownCommand code index)
        else .badFrame code index payload check) := by
  have htake : (payload ++ [check]).take (commandLength code) = payload := by rw [← h, List.take_left]
  have hcheck : (payload ++ [check]).getD (commandLength code) 0 = check := by rw [← h]; simp
  have hlength : (payload ++ [check]).length = commandLength code + 1 := by rw [← h]; simp
  simp only [decodeFrame, decodeParts, if_pos hlength, htake, hcheck]
  split
  · cases namedCommand code index payload with
    | none => rfl
    | some c => rfl
  · rfl

end

/-! ### The frame of a command (R154, R165) -/

/-- Only a bad frame carries its own check; the frame of every other command ends in the computed one. -/
theorem encodeFrame_cases {c : Instr} {frame : List Byte} (h : encodeFrame c = some frame) :
    (∃ code index payload check, c = .badFrame code index payload check ∧ frame = code :: index :: (payload ++ [check]))
      ∨ ∃ bs, commandBytes c = some bs ∧ frame = bs ++ [crc8 bs] := by
  unfold encodeFrame at h
  split at h
  · next code index payload check =>
    exact .inl ⟨code, index, payload, check, rfl, (Option.some.inj h).symm⟩
  · obtain ⟨bs, hbs, rfl⟩ := Option.map_eq_some_iff.mp h
    exact .inr ⟨bs, hbs, rfl⟩

/-- These are the code, index and payload of the command `c`: the payload has the length its code fixes, and they name `c`,
or nothing where `c` is the unknown command with that code and index. -/
def SpellsCommand (c : Instr) (code index : Byte) (payload : List Byte) : Prop :=
  payload.length = commandLength code ∧ (namedCommand code index payload).getD (.unknownCommand code index) = c

/-- The bytes of SET MODE name the row of the target code they carry, and SET MODE PASS with a code that names no target
(R144, log 11). -/
theorem namedCommand_setModePass {index target : Byte} (h : target.toNat = 0 ∨ 2 < target.toNat) :
    namedCommand 0x20 index [target] = some (.setModePass index target) := by
  simp only [namedCommand, BitVec.reduceToNat, List.getD_cons_zero]
  split
  · omega
  · omega
  · rfl

/-- The bytes of every well-formed management command but a bad frame spell that command. -/
theorem commandBytes_spell {c : Instr} {bs : List Byte} (hwf : c.wf = true) (h : commandBytes c = some bs) :
    ∃ code index payload, bs = code :: index :: payload ∧ SpellsCommand c code index payload := by
  cases c with
  | unknownCommand code index =>
    cases h
    have hnone : codeLengths code = none := Option.isNone_iff_eq_none.mp hwf
    exact ⟨code, index, [], rfl, by simp [commandLength, hnone], by rw [namedCommand_of_nameless hnone]; rfl⟩
  | writeRegion index pl => cases h; exact ⟨0x11, index, pl.toList, rfl, pl.length_toList, by simp [namedCommand]⟩
  | writeAccount index pl => cases h; exact ⟨0x13, index, pl.toList, rfl, pl.length_toList, by simp [namedCommand]⟩
  | writePort index pl => cases h; exact ⟨0x15, index, pl.toList, rfl, pl.length_toList, by simp [namedCommand]⟩
  | writeTiming index pl => cases h; exact ⟨0x17, index, pl.toList, rfl, pl.length_toList, by simp [namedCommand]⟩
  | clearChecks index pl => cases h; exact ⟨0x31, index, pl.toList, rfl, pl.length_toList, by simp [namedCommand]⟩
  | setModePass index target =>
    cases h
    exact ⟨0x20, index, [target], rfl, rfl, by rw [namedCommand_setModePass (of_decide_eq_true hwf)]; rfl⟩
  | readIdent | readStatus | readRegion | readAccount | readPort | readTiming | resetLink | readCheckRecord | readSlot
  | setModeRegulate | setModeDrain | readCounters | clearCounters | setAlertMask | ackAlert =>
    cases h; exact ⟨_, _, _, rfl, rfl, rfl⟩
  | _ => cases h

end Sys2Proof

namespace Sys2Proof.Machine

/-- Settles O5: the bytes of a command spell it, so that the frame's length and check are those that its code fixes. -/
theorem frameOfEveryCommandDecodesBack : Obligations.FrameOfEveryCommandDecodesBack := by
  intro c frame hwf hframe
  rcases encodeFrame_cases hframe with ⟨code, index, payload, check, rfl, rfl⟩ | ⟨bs, hbs, rfl⟩
  · obtain ⟨hlength, hcheck⟩ : payload.length = commandLength code ∧ crc8 (code :: index :: payload) ≠ check := by
      simpa [Instr.wf] using hwf
    rw [decodeFrame_of_length hlength, if_neg hcheck]
  · obtain ⟨code, index, payload, rfl, hlength, hnamed⟩ := commandBytes_spell hwf hbs
    rw [List.cons_append, List.cons_append, decodeFrame_of_length hlength, if_pos rfl, hnamed]

/-! ### A frame that is awaited and one that is not (R152, R154) -/

section
variable {s : State} {code index check : Byte} {payload : List Byte}

theorem exec_badFrame_of_match (h : crc8 (code :: index :: payload) = check) :
    exec (.badFrame code index payload check) s = .next s := congrArg Host.Outcome.next (if_pos h)

/-- A frame whose check differs is a frame like a command's, refused when it is awaited. -/
theorem exec_badFrame_of_mismatch (h : crc8 (code :: index :: payload) ≠ check) :
    exec (.badFrame code index payload check) s
      = .next (s.onCommand (.badFrame code index payload check) (fun s => s.refuses .badFrame)) :=
  congrArg Host.Outcome.next (if_neg h)

theorem exec_unknownCommand_of_named (h : (codeLengths code).isSome = true) :
    exec (.unknownCommand code index) s = .next s := congrArg Host.Outcome.next (if_pos h)

theorem exec_unknownCommand_of_nameless (h : ¬(codeLengths code).isSome = true) :
    exec (.unknownCommand code index) s
      = .next (s.onCommand (.unknownCommand code index) (fun s => s.refuses .unknownCommand)) :=
  congrArg Host.Outcome.next (if_neg h)

/-- What a command with a frame can do: nothing, or what the frame's rule does with it. -/
theorem exec_frame_cases {c : Instr} {frame : List Byte} (h : encodeFrame c = some frame) (s : State) :
    exec c s = .next s ∨ ∃ f, exec c s = .next (s.onCommand c f) := by
  cases c with
  | badFrame code index payload check =>
    by_cases hcheck : crc8 (code :: index :: payload) = check
    · exact .inl (exec_badFrame_of_match hcheck)
    · exact .inr ⟨_, exec_badFrame_of_mismatch hcheck⟩
  | unknownCommand code index =>
    by_cases hnamed : (codeLengths code).isSome = true
    · exact .inl (exec_unknownCommand_of_named hnamed)
    · exact .inr ⟨_, exec_unknownCommand_of_nameless hnamed⟩
  | readIdent | readStatus | readRegion | writeRegion | readAccount | writeAccount | readPort | writePort | readTiming
  | writeTiming | setModePass | setModeRegulate | setModeDrain | resetLink | readCheckRecord | clearChecks | readCounters
  | clearCounters | readSlot | setAlertMask | ackAlert => exact .inr ⟨_, rfl⟩
  | _ => cases h

/-- A frame that is not awaited is not taken (R152, R155, logs 3 and 12). -/
theorem exec_of_unawaited {c : Instr} {frame : List Byte} (hf : encodeFrame c = some frame) (h : ¬s.awaits c) :
    exec c s = .next s := by
  rcases exec_frame_cases hf s with hnext | ⟨f, hnext⟩
  · exact hnext
  · rw [hnext, State.onCommand_unawaited hf h]

end

/-- Settles O42: both frame errors are refusals, whose response carries no payload. -/
theorem frameErrorsChangeNothing : Obligations.FrameErrorsChangeNothing := by
  intro s
  refine ⟨fun code index payload check hwf h => ?_, fun code index hwf h => ?_⟩
  · have hcheck : crc8 (code :: index :: payload) ≠ check := of_decide_eq_true (Bool.and_eq_true_iff.mp hwf).2
    rw [exec_badFrame_of_mismatch hcheck]
    exact congrArg Host.Outcome.next (State.onCommand_refuses h rfl)
  · have hnamed : ¬(codeLengths code).isSome = true := by simpa [Instr.wf] using hwf
    rw [exec_unknownCommand_of_nameless hnamed]
    exact congrArg Host.Outcome.next (State.onCommand_refuses h rfl)

/-! ### What SDO carried (R155, R156, R164) -/

/-- A list filled up with one value and read within the bytes taken: past its own end it gives that value. -/
theorem getD_take_append_replicate {α : Type} (l : List α) (x d : α) {k n : Nat} (h : k < n) :
    ((l ++ List.replicate n x).take n).getD k d = l.getD k x := by
  rw [List.getD_eq_getElem?_getD, List.getElem?_take_of_lt h, List.getD_eq_getElem?_getD, List.getElem?_append]
  split
  · next hk => rw [List.getElem?_eq_getElem hk]; rfl
  · next hk => rw [List.getElem?_replicate_of_lt (by omega), List.getElem?_eq_none (by omega)]; rfl

theorem getD_replicate_append {α : Type} (m k : Nat) (x : α) (r : List α) :
    (List.replicate m x ++ r).getD k x = if k < m then x else r.getD (k - m) x := by
  split
  · next hk => rw [List.getD_append _ _ _ _ (by simpa using hk), List.getD_replicate _ hk]
  · next hk => rw [List.getD_append_right _ _ _ _ (by simpa using hk), List.length_replicate]

section
variable (command response : List Byte) (n : Nat)

@[simp] theorem sdoStream_length : (sdoStream command response n).length = n := by
  simp only [sdoStream, List.length_take, List.length_append, List.length_replicate]
  omega

/-- Filler over the command and the turnaround, then the response, then filler again. -/
theorem sdoStream_getD {k : Nat} (h : k < n) :
    (sdoStream command response n).getD k 0
      = if k < command.length + 2 then 0xFF else response.getD (k - (command.length + 2)) 0xFF :=
  (getD_take_append_replicate _ _ _ h).trans (getD_replicate_append _ _ _ _)

end

/-! ### The chip select (R152) -/

section
variable {s : State} {n : Nat}

theorem State.sdoReleased_iff : s.sdoReleased = true ↔ s.mgmt.csLow = false := by simp [State.sdoReleased]

theorem exec_csNFall (h : s.mgmt.csLow = false) :
    exec .csNFall s
      = .next { s with mgmt := { s.mgmt with csLow := true, transaction := if s.rstLow then .idle else .begun [] } } :=
  congrArg Host.Outcome.next (if_neg (by simp [h]))

/-- The bytes that SDO is recorded to have carried in a transaction that ends after `n` bytes (log 12). -/
def Mgmt.sdoAtRise (m : Mgmt) (n : Nat) : List Byte :=
  match m.transaction with
  | .idle => m.sdo
  | .begun _ => List.replicate n 0xFF
  | .answered c r => sdoStream c r n

theorem exec_csNRise (h : s.mgmt.csLow = true) :
    exec (.csNRise n) s = .next { s with mgmt := { csLow := false, transaction := .idle, sdo := s.mgmt.sdoAtRise n } } :=
  congrArg Host.Outcome.next (if_pos h)

end

/-- Settles O41: the fall and the rise of CS_N by the transaction they find, and the frames that no transaction awaits. -/
theorem transactionFollowsChipSelect : Obligations.TransactionFollowsChipSelect := by
  refine ⟨fun s h => exec_csNFall h, fun n s received h ht => ?_, fun n s c r h ht => ?_, fun n s h ht => ?_,
    fun s => State.sdoReleased_iff, fun c s hc h => ?_⟩
  · rw [exec_csNRise h, Mgmt.sdoAtRise, ht]
  · have hsdo : s.mgmt.sdoAtRise n = sdoStream c r n := by rw [Mgmt.sdoAtRise, ht]
    refine ⟨_, exec_csNRise h, rfl, ?_, fun k hk => ?_⟩
    · rw [hsdo, sdoStream_length]
    · rw [hsdo, sdoStream_getD c r n hk]
  · have hsdo : s.mgmt.sdoAtRise n = s.mgmt.sdo := by rw [Mgmt.sdoAtRise, ht]
    rw [exec_csNRise h, hsdo, ← ht]
  · obtain ⟨frame, hf⟩ := Option.isSome_iff_exists.mp hc
    exact exec_of_unawaited hf h

end Sys2Proof.Machine
end

section
/-! SUPPORT. The queue of commands: a step takes its front, and no command changes what waits behind it (00 section 1.7,
logs 1, 3 and 4). -/

namespace Sys2Proof.Machine

section
variable {s t : State} {c : Instr}

/-! ### The front of the queue -/

theorem step_of_pending_cons {rest : List Instr} (h : s.pending = c :: rest) :
    step s = exec c { s with pending := rest } := by
  unfold step
  rw [h]

theorem step_of_pending_nil (h : s.pending = []) : step s = .next s := by
  unfold step
  rw [h]

/-! ### What waits behind it -/

/-- The queue belongs to no block of the part: even the moves that reset, fail or grant leave it. -/
theorem Move.pending (m : Move s t) : t.pending = s.pending := by
  cases m with
  | accept p m => exact (State.accept_sameButDue _ p m).pending
  | linkFail => exact s.linkFail_sameButDue.pending
  | resetLink => simp only [State.resetLink, State.sendDn_pending, s.freeAllSlots_same.pending]
  | grant t p e rest i =>
    simp only [State.grantMove, State.chargeFor_eq]
    rfl
  | clearGroup g => cases g <;> rfl
  -- every other move is an update of named parts of the state, the queue not among them
  | _ => rfl

theorem Moves.pending (m : Moves s t) : t.pending = s.pending :=
  m.keeps (P := fun u => u.pending = s.pending) (fun _ _ hm hu => hm.pending.trans hu) rfl

theorem exec_pending (h : exec c s = .next t) : t.pending = s.pending := (exec_moves h).pending

end

/-- Settles O1: the two cases of `step` by the queue it finds. -/
theorem stepTakesFrontCommand : Obligations.StepTakesFrontCommand :=
  ⟨fun _ _ _ => step_of_pending_cons rfl, fun _ h => step_of_pending_nil h⟩

/-- Settles O2: a command's next state is reached by a chain of moves, none of which changes the queue. -/
theorem everyCommandAnswersNext : Obligations.EveryCommandAnswersNext := by
  intro c s
  obtain ⟨t, h⟩ := exec_next c s
  exact ⟨t, h, exec_pending h⟩

end Sys2Proof.Machine
end
